-- ==== Sys2Proof/Word.lean ====
section
/-! DEFINITION. The word types of the block: what the spec treats as bits. The widths are those of
spec/10_state.md R20 (register widths), spec/30_encoding.md R92 (ports) and spec/00_scope.md R8. -/

namespace Sys2Proof

/-- One 8-bit register of the register space (20_memory.md R61). -/
abbrev Byte := BitVec 8

/-- One 16-bit command word (30_encoding.md R90, R91). -/
abbrev CommandWord := BitVec 16

/-- The 40-bit `cal_in` port: the five record bytes, byte 0 in bits 7:0 (30_encoding.md R92). -/
abbrev CalRecord := BitVec 40

/-- The 80-bit sample register and the templates: bit 0 is the newest sample (10_state.md R22). -/
abbrev SampleWord := BitVec 80

end Sys2Proof
end

