-- ==== Sys2Proof/Config.lean ====
section
/-! DEFINITION. The parameters of the block (spec/00_scope.md R7, spec/93_implementation_defined.md section 1). Every
row of R7 is a field of `Params` or computed from fields, and the operations take a `Params` as an argument;
`Config.block` is the "value" column of R7, the specified hardware. Which configurations are refused is said in
WellFormed.lean. -/

namespace Sys2Proof

/-- `PEAK_TIE` (41_scoreboard.md R141): which of several maximal slots a peak index names. -/
inductive PeakTie where
  /-- The most recent of equal maxima: the specified hardware. -/
  | lowest
  /-- The oldest of equal maxima. -/
  | highest
  /-- Any slot that holds the maximum: a draw over those indices. -/
  | any
  deriving DecidableEq, Repr

/-- `ZERO_TEMPLATE` (92_eei_decisions.md D41). -/
inductive ZeroTemplate where
  /-- The pattern as the source lists it: the specified hardware. -/
  | literal
  /-- The non-normative variant whose bits 9..0 are 1. -/
  | tailOnes
  deriving DecidableEq, Repr

/-- The parameters of 00_scope.md R7, in its order, with the variant `ZERO_TEMPLATE` of decision D41. `NOMINAL_SCALED`,
`SCALED_MIN`, `SCALED_MAX` and `CENTER` are computed from them, as R7 says. -/
structure Params where
  templateBits : Nat
  denom : Nat
  nominalWhole : Nat
  nominalFrac : Nat
  scoreThreshold : Nat
  scoreboardLen : Nat
  seekDetectedThreshold : Nat
  syncMissThreshold : Nat
  symbolTicks : Nat
  driftTrigger : Nat
  minDisciplineTicks : Nat
  persistAfterTicks : Nat
  streamLen : Nat
  frameTicksDelta : Nat
  peakTie : PeakTie
  calVersionLatest : Nat
  zeroTemplate : ZeroTemplate
  deriving DecidableEq, Repr

namespace Config

/-- The specified hardware: the "value" column of 00_scope.md R7. -/
def block : Params where
  templateBits := 80
  denom := 64
  nominalWhole := 33333
  nominalFrac := 20
  scoreThreshold := 69
  scoreboardLen := 11
  seekDetectedThreshold := 10
  syncMissThreshold := 6
  symbolTicks := 60
  driftTrigger := 15
  minDisciplineTicks := 1000
  persistAfterTicks := 500000
  streamLen := 60
  frameTicksDelta := 14
  peakTie := .lowest
  calVersionLatest := 2
  zeroTemplate := .literal

/-- FREE VALUE of the variant `PEAK_TIE = ANY` alone (41_scoreboard.md R141, "a draw over the indices holding the
maximum"): which of the maximal slots is named, given the slots and the peak index before the shift. The specified
hardware (`PEAK_TIE = LOWEST`) never reads it. -/
opaque peakDraw : List Byte → Nat → Nat

end Config

/-- `NOMINAL_SCALED = NOMINAL_WHOLE*DENOM + NOMINAL_FRAC` (R7). -/
def Params.nominalScaled (c : Params) : Nat := c.nominalWhole * c.denom + c.nominalFrac

/-- `SCALED_MIN = ceil(19*NOMINAL_SCALED/20)` (R7, decision D10). -/
def Params.scaledMin (c : Params) : Nat := (19 * c.nominalScaled + 19) / 20

/-- `SCALED_MAX = floor(21*NOMINAL_SCALED/20)` (R7, decision D10). -/
def Params.scaledMax (c : Params) : Nat := 21 * c.nominalScaled / 20

/-- `CENTER = SCOREBOARD_LEN div 2` (R7, 41_scoreboard.md R144). -/
def Params.center (c : Params) : Nat := c.scoreboardLen / 2

end Sys2Proof
end

