-- ==== Sys2Proof/Syntax.lean ====
section
/-! DEFINITION. The commands of the block: one constructor per row of spec/opcode_table.json
(spec/30_encoding.md R90, R93). Each operand has exactly the width of its field, so every term names one legal word. -/

namespace Sys2Proof

/-- A legal command (30_encoding.md R90). -/
inductive Instr where
  /-- `TICK s`: process one input sample; 1 = high (R94, decision D38). -/
  | tick (s : Bool)
  /-- `RD a`: return the byte at register address `a` (R95). -/
  | rd (a : BitVec 8)
  /-- `CLRF m`: clear the edge flags that `m` selects (R96). -/
  | clrf (m : BitVec 6)
  /-- `RESET p`: reset the block; `p` = 1 when `cal_in` holds a calibration record (R97). -/
  | reset (p : Bool)
  deriving DecidableEq, Repr

end Sys2Proof
end

