-- ==== Sys2Proof/WellFormed.lean ====
section
/-! DEFINITION. Well-formedness: of a command word (spec/30_encoding.md R99), of a command, and of a configuration.
A command has no ill-formed term, because the types of its operands are the fields' widths; the checks that can fail
are those on a raw word and on a configuration. -/

namespace Sys2Proof

/-- `opcode = w[15:12]` (R91). -/
abbrev CommandWord.opcode (w : CommandWord) : BitVec 4 := w.extractLsb' 12 4

/-- `operand = w[11:0]` (R91). -/
abbrev CommandWord.operand (w : CommandWord) : BitVec 12 := w.extractLsb' 0 12

/-- The opcodes of R93 that name a command: 0x1, 0x2, 0x3 and 0xF. -/
def opcodeLegal (op : BitVec 4) : Bool :=
  op == 0x1#4 || op == 0x2#4 || op == 0x3#4 || op == 0xF#4

/-- The reserved operand bits of a legal opcode (R94 to R97, R99): `w[11:1]` for TICK and RESET, `w[11:8]` for RD and
`w[11:6]` for CLRF. No bit of a reserved opcode's operand is a reserved operand bit: its opcode already rejects it. -/
def reservedBits (op : BitVec 4) : BitVec 12 :=
  if op == 0x1#4 || op == 0xF#4 then 0xFFE#12
  else if op == 0x2#4 then 0xF00#12
  else if op == 0x3#4 then 0xFC0#12
  else 0x000#12

/-- The operand's reserved bits are all 0 (R99, cause 2 where they are not). -/
def operandLegal (w : CommandWord) : Bool := (w.operand &&& reservedBits w.opcode) == 0#12

/-- A legal word of R99: the opcode check, then the operand check. -/
def CommandWord.wellFormed (w : CommandWord) : Bool := opcodeLegal w.opcode && operandLegal w

/-- Every command is well formed: each operand's type is its field (R98, "zero-extended"). -/
def Instr.wellFormed : Instr → Bool
  | .tick _ => true
  | .rd _ => true
  | .clrf _ => true
  | .reset _ => true

/-- The record codec is defined for `DENOM` = 64: "a model with any other `DENOM` has no defined codec and must refuse the
configuration" (48_calibration.md R302, decision D40). -/
def Params.codecDefined (c : Params) : Bool := c.denom == 64

/-- The state has room for the sizes: `SR` has 80 bits, a board 11 slots and the stream 60, with as many register
addresses (10_state.md R20, 20_memory.md R64). DESIGN CHOICE (assumption log 8): the spec gives a larger block nowhere to
hold the rest, and the model refuses it; any size up to these runs. -/
def Params.sizesFit (c : Params) : Bool :=
  decide (c.templateBits ≤ 80) && decide (c.scoreboardLen ≤ 11) && decide (c.streamLen ≤ 60)

/-- The configurations that are not refused (93_implementation_defined.md section 2, `refuse`). No other parameter of
00_scope.md R7 is restricted: what a parameter makes too large for its field is stored in the field's width (R12). -/
def Params.wellFormed (c : Params) : Bool := c.codecDefined && c.sizesFit

end Sys2Proof
end

