-- ==== Sys2Proof/Decode.lean ====
section
/-! DEFINITION. The decoder, total on every 16-bit word, and the encoder (spec/30_encoding.md R91 to R99). -/

namespace Sys2Proof

/-- Why a word is illegal (60_exceptions.md R351). -/
inductive IllegalCause where
  /-- Cause 1: the opcode is 0x0 or 0x4 to 0xE. -/
  | reservedOpcode
  /-- Cause 2: a legal opcode with a reserved operand bit set. -/
  | reservedOperand
  deriving DecidableEq, Repr

/-- The code `ERR_CAUSE` records (60_exceptions.md R351). -/
def IllegalCause.code : IllegalCause → Byte
  | .reservedOpcode => 1#8
  | .reservedOperand => 2#8

/-- The decoder: the opcode first, then the operand's reserved bits (R91, 60_exceptions.md R354). -/
def decode (w : CommandWord) : Except IllegalCause Instr :=
  if !opcodeLegal w.opcode then .error .reservedOpcode
  else if !operandLegal w then .error .reservedOperand
  else if w.opcode == 0x1#4 then .ok (.tick (w.getLsbD 0))
  else if w.opcode == 0x2#4 then .ok (.rd (w.extractLsb' 0 8))
  else if w.opcode == 0x3#4 then .ok (.clrf (w.extractLsb' 0 6))
  else .ok (.reset (w.getLsbD 0))

/-- The word of a command (R93): opcode, zeros in the reserved operand bits, operand. -/
def encode : Instr → CommandWord
  | .tick s => 0x1#4 ++ 0#11 ++ BitVec.ofBool s
  | .rd a => 0x2#4 ++ 0#4 ++ a
  | .clrf m => 0x3#4 ++ 0#6 ++ m
  | .reset p => 0xF#4 ++ 0#11 ++ BitVec.ofBool p

/-- The command word whose bits are `w`, of which `nbits` are given and the others are 0. A command is one 16-bit word
(R100), so bits above the first word are not part of it. -/
def wordOfBits (nbits w : Nat) : CommandWord := BitVec.ofNat 16 (w % 2 ^ nbits)

/-- The command the decoder reads from an instruction whose bits are `w`, numbered as spec/opcode_table.json numbers
them. -/
def decodeTableWord (nbits w : Nat) : Option Instr :=
  match decode (wordOfBits nbits w) with
  | .ok i => some i
  | .error _ => none

end Sys2Proof
end

