-- ==== Sys2Proof/Machine/State.lean ====
section
/-! DEFINITION. The state of the block: every field of spec/10_state.md R20, grouped by the component that owns it
(spec/00_scope.md R2), the ports of spec/30_encoding.md R92, and the commands the environment still has to present.
Plain data throughout. `State.reset` is the reset column of R20 (spec/70_reset_and_hazards.md R380). -/

namespace Sys2Proof.Machine

/-- The three templates and their scoreboards: ZERO, ONE, MARKER, in the fixed checking order (42_symbol_detector.md
R161). -/
inductive Board where
  | Z
  | O
  | M
  deriving DecidableEq, Repr

/-- One value per template. -/
structure PerBoard (α : Type) where
  z : α
  o : α
  m : α
  deriving DecidableEq, Repr

/-- The value of board `k`. -/
def PerBoard.get {α : Type} (p : PerBoard α) : Board → α
  | .Z => p.z
  | .O => p.o
  | .M => p.m

/-- A stored symbol (10_state.md R26): `'0'`, `'1'`, `'M'` or `'-'` (missing). -/
inductive Symbol where
  | zero
  | one
  | marker
  | missing
  deriving DecidableEq, Repr

/-- Acquisition state (10_state.md R28). -/
inductive Mode where
  | seek
  | sync
  deriving DecidableEq, Repr

/-- The agents that issue commands (00_scope.md R14, 60_exceptions.md R360). -/
inductive Agent where
  | tickSource
  | consumer
  | resetController
  deriving DecidableEq, Repr

/-- A scoreboard (10_state.md R25): eleven slots, slot 0 the most recent score, and the cached peak. -/
structure Scoreboard where
  slots : Vector Byte 11
  /-- `PEAK_V` -/
  peakV : Byte
  /-- `PEAK_I` -/
  peakI : Byte
  deriving DecidableEq, Repr

/-- The acquisition state (10_state.md R28, R29). -/
structure Acquisition where
  mode : Mode
  seekCount : Byte
  peekIn : Byte
  missed : Byte
  /-- `LAST_OFFSET`, two's complement -/
  lastOffset : BitVec 8
  /-- `ACC`, two's complement -/
  acc : BitVec 16
  /-- `TSS` -/
  tss : BitVec 32
  /-- `TSP` -/
  tsp : BitVec 32
  deriving DecidableEq, Repr

/-- The clock parameters and the cadence (10_state.md R30, R31). `WHOLE` and `FRAC` are views of `scaled`. -/
structure Clock where
  scaled : BitVec 32
  fracAcc : Byte
  period : BitVec 16
  compare : BitVec 16
  deriving DecidableEq, Repr

/-- The time of day (10_state.md R32, R33). -/
structure TimeOfDay where
  ticks : Byte
  seconds : Byte
  minutes : Byte
  hours : Byte
  day : BitVec 16
  year : BitVec 16
  isDst : Bool
  isLeapMinute : Bool
  isLeapYear : Bool
  hasFix : Bool
  deriving DecidableEq, Repr

/-- The record of the first illegal command since reset (10_state.md R37). -/
structure ErrorRecord where
  /-- `ERR`, sticky -/
  err : Bool
  /-- `ERR_CAUSE` -/
  cause : Byte
  /-- `ERR_CMD` -/
  cmd : CommandWord
  deriving DecidableEq, Repr

/-- The ports of 30_encoding.md R92, each at the value it carries. -/
structure Ports where
  /-- in: the command word -/
  cmd : CommandWord
  /-- in: the command strobe -/
  cmdValid : Bool
  /-- in: the calibration record bytes, read only by RESET -/
  calIn : CalRecord
  /-- out: the byte of the last RD -/
  rdata : Byte
  /-- out: `PERIOD` as last driven -/
  periodOut : BitVec 16
  /-- out: `COMPARE` as last driven -/
  compareOut : BitVec 16
  /-- out: the completion pulse -/
  cmdDone : Bool
  deriving DecidableEq, Repr

/-- One command as the environment presents it: the word on `cmd` and the record bytes on `cal_in`, the agent that
issues it (which the block never checks, 20_memory.md R77), and whether the strobe comes before the `cmd_done` of the
command before it (70_reset_and_hazards.md R385). -/
structure Presentation where
  word : CommandWord
  calIn : CalRecord
  agent : Agent
  early : Bool
  deriving DecidableEq, Repr

/-- Why the machine stops. -/
inductive Fault where
  /-- Raised by the step when the environment presents a command before `cmd_done` of the one before it
  (70_reset_and_hazards.md R385; 93_implementation_defined.md section 2: "`fault`: outside the spec. The model does not
  accept it"). Safe: the spec gives that command no effect. -/
  | earlyCommand
  /-- Raised by TICK when a discipline adjust meets `apparent_ticks <= 0` (46_clock_discipline.md R251, R258, decision
  D31: "a model that reaches it treats it as a fault of the model"). Safe: no state reached from reset raises it. -/
  | apparentTicksNotPositive
  deriving DecidableEq, Repr

/-- Why the machine has no meaning for an instruction. -/
inductive Refusal where
  /-- Raised by `exec` alone, for an instruction whose meaning is not written; no arm of this model raises it. Safe. -/
  | notModelled (mnemonic : String)
  /-- Raised by `configure` alone, for a configuration that is refused: `DENOM` other than 64, as the spec directs
  (48_calibration.md R302, decision D40), and sizes larger than the state of 10_state.md R20 (assumption log 8). Safe: no
  machine is built. -/
  | configurationUndefined
  deriving DecidableEq, Repr

/-- The complete state: the fields of 10_state.md R20, the ports of 30_encoding.md R92, and the model's own
`schedule`, the commands of all agents still to be presented, in their total order (20_memory.md R70, R71, parameter
`SCHEDULE`). -/
structure State where
  /-- `SR` -/
  sr : SampleWord
  /-- `SCORE[k]` -/
  score : PerBoard Byte
  /-- `SB[k]`, `PEAK_V[k]`, `PEAK_I[k]` -/
  board : PerBoard Scoreboard
  /-- `STREAM`: slot 0 the oldest symbol, slot 59 the newest -/
  stream : Vector Symbol 60
  /-- `FRAME_SCORE` -/
  frameScore : Byte
  acq : Acquisition
  clock : Clock
  tod : TimeOfDay
  /-- `DEC_REJ` -/
  decRej : Bool
  error : ErrorRecord
  /-- `FLAGS[5:0]` (10_state.md R43) -/
  flags : BitVec 6
  /-- `CAL_STATUS` -/
  calStatus : Byte
  ports : Ports
  /-- the model's own: what the environment presents next, oldest first -/
  schedule : List Presentation
  deriving DecidableEq, Repr

/-- An empty scoreboard with its cached peak (0, 0) (10_state.md R25). -/
def Scoreboard.reset : Scoreboard where
  slots := Vector.replicate 11 0#8
  peakV := 0#8
  peakI := 0#8

/-- Right after `RESET` with p = 0: every field at the reset value of 10_state.md R20, with the default calibration
(48_calibration.md R301) and the first period short (R31). The three input ports carry the command that brought the
state about and no record; nothing is scheduled. -/
def State.reset : State where
  sr := 0#80
  score := ⟨0#8, 0#8, 0#8⟩
  board := ⟨Scoreboard.reset, Scoreboard.reset, Scoreboard.reset⟩
  stream := Vector.replicate 60 Symbol.missing
  frameScore := 0#8
  acq := ⟨.seek, 0#8, 0#8, 0#8, 0#8, 0#16, 0#32, 0#32⟩
  clock := ⟨2133332#32, 0#8, 33333#16, 33332#16⟩
  tod := ⟨0#8, 0#8, 0#8, 0#8, 1#16, 2000#16, false, false, false, false⟩
  decRej := false
  error := ⟨false, 0#8, 0#16⟩
  flags := 0#6
  calStatus := 0#8
  ports := ⟨0xF000#16, false, 0#40, 0#8, 33333#16, 33332#16, true⟩
  schedule := []

end Sys2Proof.Machine
end

