-- ==== Sys2Proof/Machine/Flags.lean ====
section
/-! DEFINITION. The edge flags (spec/10_state.md R43) and the STATUS byte (R34, R35): every flag and status bit, how it
is raised, cleared and packed. -/

namespace Sys2Proof.Machine

/-- The six edge flags (R43). -/
inductive Flag where
  | validFrame
  | secondChanged
  | minuteChanged
  | paramsUnsaved
  | needsUiRefresh
  | tickIntervalChanged
  deriving DecidableEq, Repr

/-- The bit of FLAGS that holds the flag (R43). -/
def Flag.index : Flag → Nat
  | .validFrame => 0
  | .secondChanged => 1
  | .minuteChanged => 2
  | .paramsUnsaved => 3
  | .needsUiRefresh => 4
  | .tickIntervalChanged => 5

/-- The one-bit mask of a flag. -/
def Flag.mask (f : Flag) : BitVec 6 := 1#6 <<< f.index

/-- Whether a flag is true. -/
def State.flag (f : Flag) (s : State) : Bool := s.flags.getLsbD f.index

/-- Set a flag; one that is already true stays true (R43). -/
def State.raiseFlag (f : Flag) (s : State) : State := { s with flags := s.flags ||| f.mask }

/-- Set a flag when the condition holds. -/
def State.raiseFlagIf (b : Bool) (f : Flag) (s : State) : State := if b then s.raiseFlag f else s

/-- Clear the flags a mask selects (49_tick_and_port.md R327). -/
def State.clearFlags (m : BitVec 6) (s : State) : State := { s with flags := s.flags &&& ~~~m }

/-- `MODE` as STATUS bit 0: 1 = SYNC (R34). -/
def Mode.bit : Mode → Bool
  | .seek => false
  | .sync => true

/-- `BLANK = (not HAS_FIX) and (TICKS > 45)`, computed on each read (R35). -/
def State.blank (s : State) : Bool := !s.tod.hasFix && decide (45 < s.tod.ticks.toNat)

/-- The bits of STATUS, bit 0 first (R34). -/
def State.statusBits (s : State) : List Bool :=
  [s.acq.mode.bit, s.tod.hasFix, s.tod.isLeapYear, s.tod.isDst, s.tod.isLeapMinute, s.blank, s.decRej, s.error.err]

/-- A byte from its bits, bit 0 first. -/
def byteOfBits : List Bool → Byte
  | [] => 0#8
  | b :: bs => (byteOfBits bs) <<< 1 ||| (BitVec.ofBool b).setWidth 8

/-- The STATUS byte (R34). -/
def State.status (s : State) : Byte := byteOfBits s.statusBits

/-- The FLAGS byte: bits 7:6 read 0 (R43). -/
def State.flagsByte (s : State) : Byte := s.flags.setWidth 8

end Sys2Proof.Machine
end

