-- ==== Sys2Proof/Machine/Ops.lean ====
section
/-! DEFINITION. The named operations every command shares: storing an exact result, driving the output ports, taking a
command from the environment, completing it, and taking the one exception, IllegalCommand
(spec/60_exceptions.md R350 to R357). The block has no data memory (spec/20_memory.md R60), and no return from an
exception: R357 gives it no handler to return from. -/

namespace Sys2Proof.Machine

/-- `trunc_8` of an exact non-negative result (00_scope.md R10, R12). -/
def trunc8 (n : Nat) : Byte := BitVec.ofNat 8 n

/-- `trunc_16` of an exact non-negative result. -/
def trunc16 (n : Nat) : BitVec 16 := BitVec.ofNat 16 n

/-- `trunc_32` of an exact non-negative result. -/
def trunc32 (n : Nat) : BitVec 32 := BitVec.ofNat 32 n

/-- Byte `j` of a little-endian field: bits `8j+7 : 8j` (20_memory.md R65, R66). -/
def byteAt {w : Nat} (v : BitVec w) (j : Nat) : Byte := v.extractLsb' (8 * j) 8

/-- `emit(period_out, PERIOD)` and `emit(compare_out, COMPARE)` (46_clock_discipline.md R255, R259). -/
def State.emitPeriod (s : State) : State :=
  { s with ports := { s.ports with periodOut := s.clock.period, compareOut := s.clock.compare } }

/-- `emit(rdata, v)`: `rdata` holds the byte until the next RD (30_encoding.md R92). -/
def State.emitRdata (v : Byte) (s : State) : State := { s with ports := { s.ports with rdata := v } }

/-- `emit(cmd_done)`: the command has completed and the strobe that brought it is over (49_tick_and_port.md R319). -/
def State.complete (s : State) : State :=
  { s with ports := { s.ports with cmdValid := false, cmdDone := true } }

/-- The environment presents a command: its word and record bytes stand on the ports and `cmd_valid` is strobed
(30_encoding.md R92, 70_reset_and_hazards.md R385). -/
def State.accept (p : Presentation) (rest : List Presentation) (s : State) : State :=
  { s with
    ports := { s.ports with cmd := p.word, cmdValid := true, calIn := p.calIn, cmdDone := false }
    schedule := rest }

/-- No command is presented: the block is idle, and the completion pulse is over (60_exceptions.md R365). -/
def State.idle (s : State) : State :=
  { s with ports := { s.ports with cmdValid := false, cmdDone := false } }

/-- What the error registers hold after an illegal word: the first error's record is kept (60_exceptions.md R350). -/
def ErrorRecord.record (cause : IllegalCause) (w : CommandWord) (e : ErrorRecord) : ErrorRecord :=
  if e.err then e else { err := true, cause := cause.code, cmd := w }

/-- TAKING THE EXCEPTION: `raise IllegalCommand(cause, w)` ends the command with no effect but the error registers.
Nothing is saved, no mode changes, and there is no vector (60_exceptions.md R350, R355). -/
def State.raiseIllegal (cause : IllegalCause) (w : CommandWord) (s : State) : State :=
  { s with error := s.error.record cause w }.complete

/-- The agent that issues a command by the convention of 30_encoding.md R90; the block does not check it
(20_memory.md R77), and an illegal word has no agent of its own (here the consumer). -/
def customaryAgent (w : CommandWord) : Agent :=
  if w.opcode == 0x1#4 then .tickSource
  else if w.opcode == 0xF#4 then .resetController
  else .consumer

/-- The command `w` is put before whatever else is scheduled, with the record bytes that stand on `cal_in`. -/
def State.presentNext (w : CommandWord) (s : State) : State :=
  { s with schedule := ⟨w, s.ports.calIn, customaryAgent w, false⟩ :: s.schedule }

end Sys2Proof.Machine
end

