-- ==== Sys2Proof/Machine/ClockDiscipline.lean ====
section
/-! DEFINITION. Component H and the cadence of component L: the discipline update and the fractional divider
(spec/46_clock_discipline.md R250 to R259). -/

namespace Sys2Proof.Machine

/-- `WHOLE = SCALED div DENOM`, a view (R250, R254). -/
def Clock.whole (c : Params) (k : Clock) : BitVec 16 := trunc16 (k.scaled.toNat / c.denom)

/-- `FRAC = SCALED mod DENOM`, a view (R250, R254). -/
def Clock.frac (c : Params) (k : Clock) : Byte := trunc8 (k.scaled.toNat % c.denom)

/-- `MULDIV(a, b, c) = floor(a*b / c)`, exact, for `c > 0` (R251). -/
def muldiv (a b c : Nat) : Nat := a * b / c

/-- `clamp(v, lo, hi) = min(max(v, lo), hi)` (00_scope.md R11). -/
def clamp (v lo hi : Nat) : Nat := min (max v lo) hi

/-- The stored `SCALED` after an adjust (R252, R253): the exact muldiv, the floor of the average, the clamp. -/
def adjustedScaled (c : Params) (scaled localTicks apparentTicks : Nat) : Nat :=
  clamp ((muldiv scaled localTicks apparentTicks + scaled) / 2) c.scaledMin c.scaledMax

/-- `H_ADJUST(local_ticks, apparent_ticks)` (R252). `apparent_ticks <= 0` is a fault of the model (R258, decision D31). -/
def Clock.adjust (c : Params) (localTicks : Nat) (apparentTicks : Int) (k : Clock) : Except Fault Clock :=
  if apparentTicks ≤ 0 then .error .apparentTicksNotPositive
  else .ok { k with scaled := trunc32 (adjustedScaled c k.scaled.toNat localTicks apparentTicks.toNat) }

/-- The fraction accumulator after one cadence step (R255). -/
def Clock.nextFracAcc (c : Params) (k : Clock) : Nat := (k.fracAcc.toNat + (k.frac c).toNat) % c.denom

/-- The next period is long: the addition wrapped (R255). -/
def Clock.isLong (c : Params) (k : Clock) : Bool := decide (k.nextFracAcc c < (k.frac c).toNat)

/-- The next period in raw cycles (R255). -/
def Clock.nextPeriod (c : Params) (k : Clock) : BitVec 16 := if k.isLong c then k.whole c + 1#16 else k.whole c

/-- The clock after one cadence step (R255). -/
def Clock.cadence (c : Params) (k : Clock) : Clock :=
  { k with fracAcc := trunc8 (k.nextFracAcc c), period := k.nextPeriod c, compare := k.nextPeriod c - 1#16 }

/-- `CADENCE()` (R255), step 8 of TICK. -/
def State.cadence (c : Params) (s : State) : State := { s with clock := s.clock.cadence c }.emitPeriod

end Sys2Proof.Machine
end

