-- ==== Sys2Proof/Machine/Calibration.lean ====
section
/-! DEFINITION. Component J: the calibration record codec (spec/48_calibration.md R300 to R306). The byte store that
holds the record is outside the block (spec/00_scope.md R5). -/

namespace Sys2Proof.Machine

/-- `version`: record byte 0 (R300). -/
def recordVersion (r : CalRecord) : Nat := (r.extractLsb' 0 8).toNat

/-- `scaled_counts`: record bytes 1 to 4, little-endian (R300). -/
def recordScaled (r : CalRecord) : Nat := (r.extractLsb' 8 32).toNat

/-- The candidate `SCALED` of a record: a v1 record holds it with denominator 16 (R301, R302). Exact. -/
def recordCandidate (r : CalRecord) : Option Nat :=
  if recordVersion r = 1 then some (recordScaled r * 4)
  else if recordVersion r = 2 then some (recordScaled r)
  else none

/-- `CAL_LOAD(p, rec)`: the `SCALED` and the `CAL_STATUS` that RESET loads (R301). -/
def calLoad (c : Params) (p : Bool) (r : CalRecord) : Nat × Nat :=
  if p then
    match recordCandidate r with
    | some cand =>
      if c.scaledMin ≤ cand ∧ cand ≤ c.scaledMax then (cand, recordVersion r) else (c.nominalScaled, 0)
    | none => (c.nominalScaled, 0)
  else (c.nominalScaled, 0)

/-- `CAL_OUT[0..4]` as one 40-bit record, byte 0 in bits 7:0: always a v2 record of the current `SCALED` (R303). -/
def Clock.calOut (c : Params) (k : Clock) : CalRecord := k.scaled ++ BitVec.ofNat 8 c.calVersionLatest

end Sys2Proof.Machine
end

