-- ==== Sys2Proof/Machine/Correlator.lean ====
section
/-! DEFINITION. Components A and B: the sample register, the templates and the correlator
(spec/40_sample_correlator.md R120 to R129). -/

namespace Sys2Proof.Machine

/-- The newest `TEMPLATE_BITS` bits; in the specified hardware, all 80 (00_scope.md R7). -/
def keepBits (c : Params) (v : SampleWord) : SampleWord := (v.setWidth c.templateBits).setWidth 80

/-- `{SR[78:0], b}`: the newest sample enters at bit 0 and the oldest is lost (R120). -/
def srShift (c : Params) (b : Bool) (sr : SampleWord) : SampleWord := keepBits c (sr.setWidth 79 ++ BitVec.ofBool b)

/-- `SR_SHIFT(b)` (R120), step 2 of TICK. -/
def State.srShift (c : Params) (b : Bool) (s : State) : State := { s with sr := Machine.srShift c b s.sr }

/-- The 80-bit values of `T_Z`, `T_O`, `T_M` (R122); the ZERO template's tail is literal in the specified hardware
(decision D41). -/
def templateValue (c : Params) : Board → SampleWord
  | .Z =>
    match c.zeroTemplate with
    | .literal => 0x003FFC00000000000000#80
    | .tailOnes => 0x003FFC000000000003FF#80
  | .O => 0x003FFFFFFF00000003FF#80
  | .M => 0x003FFFFFFFFFFFC003FF#80

/-- `T_k` (R122). A block of fewer `TEMPLATE_BITS` has the newest bits of it (DESIGN CHOICE, assumption log 8). -/
def template (c : Params) (k : Board) : SampleWord := keepBits c (templateValue c k)

/-- The number of 1 bits (00_scope.md R11). -/
def popcount {w : Nat} (v : BitVec w) : Nat := (List.range w).countP fun i => v.getLsbD i

/-- The number of bits in which the sample register matches template `k`: `80 - popcount(SR XOR T_k)` (R124). -/
def matchingBits (c : Params) (k : Board) (sr : SampleWord) : Nat :=
  c.templateBits - popcount (keepBits c (sr ^^^ template c k))

/-- `CORR_SCORE(k)` (R124). -/
def corrScore (c : Params) (k : Board) (sr : SampleWord) : Byte := trunc8 (matchingBits c k sr)

end Sys2Proof.Machine
end

