-- ==== Sys2Proof/Machine/Operands.lean ====
section
/-! DEFINITION. The operand forms. The sample bit of TICK and the `cal_present` bit of RESET are used as they stand, and
the mask of CLRF selects FLAGS bits (Flags.lean); the address of RD names one byte of the register space
(spec/20_memory.md R61 to R66, spec/49_tick_and_port.md R326). -/

namespace Sys2Proof.Machine

/-- The code of a stored symbol (10_state.md R26, decision D33). -/
def Symbol.code : Symbol → Byte
  | .zero => 0#8
  | .one => 1#8
  | .marker => 2#8
  | .missing => 3#8

/-- A row of the register map (20_memory.md R64): a base address, how many addresses, and the byte at each offset. -/
structure RegRow where
  base : Nat
  len : Nat
  byte : Nat → Byte

/-- A row of one address. -/
def RegRow.one (base : Nat) (v : Byte) : RegRow := ⟨base, 1, fun _ => v⟩

/-- A row of a little-endian field of `len` bytes (20_memory.md R65, R66). -/
def RegRow.field {w : Nat} (base len : Nat) (v : BitVec w) : RegRow := ⟨base, len, byteAt v⟩

/-- The address lies in the row. -/
def RegRow.holds (a : Nat) (r : RegRow) : Bool := decide (r.base ≤ a) && decide (a < r.base + r.len)

/-- The register map (20_memory.md R64), row by row, each byte computed from the current state. -/
def regMap (c : Params) (s : State) : List RegRow :=
  [ .one 0x00 s.status,
    .one 0x01 s.flagsByte,
    .one 0x02 s.tod.ticks,
    .one 0x03 s.tod.seconds,
    .one 0x04 s.tod.minutes,
    .one 0x05 s.tod.hours,
    .field 0x06 2 s.tod.day,
    .field 0x08 2 s.tod.year,
    .one 0x0A s.frameScore,
    .one 0x0B s.calStatus,
    .one 0x0C s.error.cause,
    .field 0x0D 2 s.error.cmd,
    .one 0x10 s.score.z,
    .one 0x11 s.score.o,
    .one 0x12 s.score.m,
    .one 0x13 s.board.z.peakV,
    .one 0x14 s.board.z.peakI,
    .one 0x15 s.board.o.peakV,
    .one 0x16 s.board.o.peakI,
    .one 0x17 s.board.m.peakV,
    .one 0x18 s.board.m.peakI,
    .one 0x20 s.acq.seekCount,
    .one 0x21 s.acq.peekIn,
    .one 0x22 s.acq.missed,
    .one 0x23 s.acq.lastOffset,
    .field 0x24 2 s.acq.acc,
    .field 0x26 4 s.acq.tss,
    .field 0x2A 4 s.acq.tsp,
    .field 0x30 4 s.clock.scaled,
    .field 0x34 2 (s.clock.whole c),
    .one 0x36 (s.clock.frac c),
    .one 0x37 s.clock.fracAcc,
    .field 0x38 2 s.clock.period,
    .field 0x3A 2 s.clock.compare,
    .field 0x40 10 s.sr,
    ⟨0x50, 11, fun j => s.board.z.slots.toList.getD j 0#8⟩,
    ⟨0x60, 11, fun j => s.board.o.slots.toList.getD j 0#8⟩,
    ⟨0x70, 11, fun j => s.board.m.slots.toList.getD j 0#8⟩,
    .field 0x80 5 (s.clock.calOut c),
    ⟨0xA0, 60, fun j => (s.stream.toList.getD j .missing).code⟩,
    .field 0xE0 10 (template c .Z),
    .field 0xEA 10 (template c .O),
    .field 0xF4 10 (template c .M) ]

/-- `READ_REG(a)` (49_tick_and_port.md R326): the byte at an address; a reserved address reads 0x00 (20_memory.md R62). -/
def readRegWith (c : Params) (s : State) (a : Byte) : Byte :=
  match (regMap c s).find? (RegRow.holds a.toNat) with
  | some r => r.byte (a.toNat - r.base)
  | none => 0#8

/-- `READ_REG(a)` of the specified hardware. -/
def readReg (s : State) (a : Byte) : Byte := readRegWith Config.block s a

end Sys2Proof.Machine
end

