-- ==== Sys2Proof/Machine/Port.lean ====
section
/-! DEFINITION. The consumer's commands, RD and CLRF (spec/49_tick_and_port.md R326, R327). -/

namespace Sys2Proof.Machine

/-- `RD a` (R326): drive `rdata` with the register's byte; no state changes. -/
def execRdWith (c : Params) (a : BitVec 8) (s : State) : Host.Outcome State Fault Refusal :=
  .next (s.emitRdata (readRegWith c s a)).complete

/-- `RD a` of the specified hardware. -/
def execRd (a : BitVec 8) (s : State) : Host.Outcome State Fault Refusal := execRdWith Config.block a s

/-- `CLRF m` (R327): write-1-to-clear of the edge flags. -/
def execClrf (m : BitVec 6) (s : State) : Host.Outcome State Fault Refusal :=
  .next (s.clearFlags m).complete

end Sys2Proof.Machine
end

