-- ==== Sys2Proof/Machine/Reset.lean ====
section
/-! DEFINITION. The RESET command (spec/70_reset_and_hazards.md R380 to R382). -/

namespace Sys2Proof.Machine

/-- The clock after the calibration load: the first period is short (R381, 10_state.md R31). -/
def resetClock (c : Params) (scaled : Nat) : Clock :=
  let k : Clock := ⟨trunc32 scaled, 0#8, 0#16, 0#16⟩
  { k with period := k.whole c, compare := k.whole c - 1#16 }

/-- Every field of the block at its reset value, with the calibration of the record (R381). The input ports and what
the environment still has to present are not the block's state, and stay. -/
def State.resetBlock (c : Params) (p : Bool) (s : State) : State :=
  let cal := calLoad c p s.ports.calIn
  (({ State.reset with
      clock := resetClock c cal.1
      calStatus := trunc8 cal.2
      ports := s.ports
      schedule := s.schedule } : State).emitPeriod).emitRdata 0#8

/-- `RESET p` (R381). -/
def execResetWith (c : Params) (p : Bool) (s : State) : Host.Outcome State Fault Refusal :=
  .next (s.resetBlock c p).complete

/-- `RESET p` of the specified hardware. -/
def execReset (p : Bool) (s : State) : Host.Outcome State Fault Refusal := execResetWith Config.block p s

/-- The state right after the first RESET, with its operand and the record bytes on `cal_in`: where a model starts, which
"takes `p` and `cal_in` as arguments" (R382). -/
def State.afterReset (c : Params) (p : Bool) (r : CalRecord) : State :=
  ({ State.reset with
      ports := { State.reset.ports with cmd := encode (.reset p), calIn := r } } : State).resetBlock c p |>.complete

end Sys2Proof.Machine
end

