-- ==== Sys2Proof/Machine/Scoreboard.lean ====
section
/-! DEFINITION. Component C: the three scoreboards and their cached peaks (spec/41_scoreboard.md R140 to R145). -/

namespace Sys2Proof.Machine

/-- The scan of R141 from slot `i` on, with the best value and index so far: strict `>`, so the earlier index wins. -/
def peakScanLowest : List Byte → Nat → Byte × Nat → Byte × Nat
  | [], _, best => best
  | v :: vs, i, best =>
    peakScanLowest vs (i + 1) (if best.1.toNat < v.toNat then (v, i) else best)

/-- The same scan with `>=`: the later index wins (`PEAK_TIE` = HIGHEST). -/
def peakScanHighest : List Byte → Nat → Byte × Nat → Byte × Nat
  | [], _, best => best
  | v :: vs, i, best =>
    peakScanHighest vs (i + 1) (if best.1.toNat ≤ v.toNat then (v, i) else best)

/-- The indices, from `i` on, of the slots that hold `v`. -/
def indicesOf (v : Byte) : List Byte → Nat → List Nat
  | [], _ => []
  | x :: xs, i => if x = v then i :: indicesOf v xs (i + 1) else indicesOf v xs (i + 1)

/-- The peak `(value, index)` of a list of slots under a tie rule (R141). For ANY the index is a draw, a free value,
over the indices that hold the maximum. -/
def peakOf (tie : PeakTie) (oldIndex : Nat) (slots : List Byte) : Byte × Nat :=
  let first := slots.headD 0#8
  match tie with
  | .lowest => peakScanLowest slots.tail 1 (first, 0)
  | .highest => peakScanHighest slots.tail 1 (first, 0)
  | .any =>
    let best := (peakScanLowest slots.tail 1 (first, 0)).1
    let holders := indicesOf best slots 0
    (best, holders.getD (Config.peakDraw slots oldIndex % holders.length) 0)

/-- How many slots of a board are in use: `SCOREBOARD_LEN` (00_scope.md R7). DESIGN CHOICE (assumption log 8): at
`SCOREBOARD_LEN` = 0, which the spec does not consider, slot 0 is in use all the same, as R140 stores into it and R141
starts from it without a condition. -/
def activeLen (c : Params) : Nat := max 1 c.scoreboardLen

/-- The slots in use, slot 0 first: all eleven in the specified hardware (R140). -/
def Scoreboard.activeSlots (c : Params) (b : Scoreboard) : List Byte := b.slots.toList.take (activeLen c)

/-- `PEAK_UPDATE(k)` (R141). -/
def Scoreboard.peakUpdate (c : Params) (b : Scoreboard) : Scoreboard :=
  let p := peakOf c.peakTie b.peakI.toNat (b.activeSlots c)
  { b with peakV := p.1, peakI := trunc8 p.2 }

/-- The slots after a score enters at slot 0 and the oldest of the slots in use leaves (R140); a slot that is not in use
keeps its value. -/
def shiftSlots (c : Params) (v : Byte) (slots : Vector Byte 11) : Vector Byte 11 :=
  Vector.ofFn fun i =>
    if i.val = 0 then v else if i.val < activeLen c then slots[i.val - 1] else slots[i]

/-- `SB_SHIFT(k, v)` (R140). -/
def Scoreboard.shift (c : Params) (v : Byte) (b : Scoreboard) : Scoreboard :=
  { b with slots := shiftSlots c v b.slots }.peakUpdate c

/-- `SB_PEAK(k)` (R143). -/
def Scoreboard.peak (b : Scoreboard) : Byte × Byte := (b.peakV, b.peakI)

/-- `SB_MAX_OVER(k, t)` (R143): the comparison is strict. -/
def Scoreboard.maxOver (t : Nat) (b : Scoreboard) : Option (Byte × Byte) :=
  if t < b.peakV.toNat then some b.peak else none

/-- Step 3 of TICK: score the sample register against each template, then shift the score into its board
(49_tick_and_port.md R320). -/
def State.scoreAndShift (c : Params) (s : State) : State :=
  let z := corrScore c .Z s.sr
  let o := corrScore c .O s.sr
  let m := corrScore c .M s.sr
  { s with
    score := ⟨z, o, m⟩
    board := ⟨s.board.z.shift c z, s.board.o.shift c o, s.board.m.shift c m⟩ }

end Sys2Proof.Machine
end

