-- ==== Sys2Proof/Machine/Detector.lean ====
section
/-! DEFINITION. Component D: the symbol detector, a pure function of the three cached peaks
(spec/42_symbol_detector.md R160 to R165). -/

namespace Sys2Proof.Machine

/-- The symbol a board yields (R161). -/
def Board.symbol : Board → Symbol
  | .Z => .zero
  | .O => .one
  | .M => .marker

/-- The fixed checking order (R161). -/
def checkingOrder : List Board := [.Z, .O, .M]

/-- The board's peak is above the threshold (R164). -/
def Scoreboard.qualifies (c : Params) (b : Scoreboard) : Bool := (b.maxOver c.scoreThreshold).isSome

/-- The board's peak is in the centre slot (41_scoreboard.md R144). -/
def Scoreboard.aligned (c : Params) (b : Scoreboard) : Bool := b.peakI.toNat == c.center

/-- `DETECT_SEEK()` (R162): the first board, in the order Z, O, M, with a qualifying peak in the centre slot. -/
def detectSeek (c : Params) (boards : PerBoard Scoreboard) : Option Symbol :=
  (checkingOrder.find? fun k => (boards.get k).qualifies c && (boards.get k).aligned c).map Board.symbol

/-- `offset = CENTER - PEAK_I` (R163, R165). -/
def Scoreboard.offset (c : Params) (b : Scoreboard) : Int := (c.center : Int) - b.peakI.toNat

/-- `DETECT_SYNC()` (R163): the symbol and offset of the only board with a qualifying peak; `none` is a Miss, when no
board or more than one qualifies. -/
def detectSync (c : Params) (boards : PerBoard Scoreboard) : Option (Symbol × Int) :=
  match checkingOrder.filter fun k => (boards.get k).qualifies c with
  | [k] => some (k.symbol, (boards.get k).offset c)
  | _ => none

end Sys2Proof.Machine
end

