-- ==== Sys2Proof/Machine/TimeOfDay.lean ====
section
/-! DEFINITION. Component I: the time of day (spec/47_time_of_day.md R280 to R285). -/

namespace Sys2Proof.Machine

/-- `GREGORIAN_LEAP(y)` (R282). -/
def gregorianLeap (y : Nat) : Bool := (y % 4 == 0 && y % 100 != 0) || y % 400 == 0

/-- The last day of the year (R281). -/
def TimeOfDay.lastDay (t : TimeOfDay) : Nat := if t.isLeapYear then 366 else 365

/-- The seconds of the running minute (R280); 61 only in a leap minute. -/
def TimeOfDay.minuteLength (t : TimeOfDay) : Nat := if t.isLeapMinute then 61 else 60

/-- The carry into the year (R281): `YEAR` is u16 and wraps. -/
def TimeOfDay.yearCarry (t : TimeOfDay) : TimeOfDay :=
  { t with day := 1#16, year := t.year + 1#16, isLeapYear := gregorianLeap (t.year + 1#16).toNat }

/-- The carry into the day (R281). -/
def TimeOfDay.dayCarry (t : TimeOfDay) : TimeOfDay :=
  if t.lastDay < (t.day + 1#16).toNat then t.yearCarry else { t with day := t.day + 1#16 }

/-- The carry into the hour (R281). -/
def TimeOfDay.hourCarry (t : TimeOfDay) : TimeOfDay :=
  if t.hours + 1#8 = 24#8 then { t with hours := 0#8 }.dayCarry else { t with hours := t.hours + 1#8 }

/-- `MINUTE_CARRY()` (R281). -/
def TimeOfDay.minuteCarry (t : TimeOfDay) : TimeOfDay :=
  if t.minutes + 1#8 = 60#8 then { t with minutes := 0#8 }.hourCarry else { t with minutes := t.minutes + 1#8 }

/-- The tick rolls the second over (R280). -/
def TimeOfDay.secondRolls (t : TimeOfDay) : Bool := t.ticks + 1#8 == 60#8

/-- The tick rolls the second and the minute over (R280). -/
def TimeOfDay.minuteRolls (t : TimeOfDay) : Bool :=
  t.secondRolls && (t.seconds + 1#8).toNat == t.minuteLength

/-- The fields after one tick (R280), the flags aside. A leap minute is cleared when it ends. -/
def TimeOfDay.advance (t : TimeOfDay) : TimeOfDay :=
  if t.minuteRolls then { t with ticks := 0#8, seconds := 0#8, isLeapMinute := false }.minuteCarry
  else if t.secondRolls then { t with ticks := 0#8, seconds := t.seconds + 1#8 }
  else { t with ticks := t.ticks + 1#8 }

/-- `repeat n times: TOD_ADVANCE(raise_flags = false)` (44_frame_decoder.md R203). -/
def TimeOfDay.advanceBy : Nat → TimeOfDay → TimeOfDay
  | 0, t => t
  | n + 1, t => advanceBy n t.advance

/-- `TOD_ADVANCE(raise_flags = true)` (R280), step 6 of TICK. -/
def State.todAdvance (s : State) : State :=
  ({ s with tod := s.tod.advance }.raiseFlagIf s.tod.secondRolls .secondChanged).raiseFlagIf s.tod.minuteRolls
    .minuteChanged

end Sys2Proof.Machine
end

