-- ==== Sys2Proof/Machine/Frame.lean ====
section
/-! DEFINITION. Components E and F: the symbol stream with its frame-alignment score (spec/43_symbol_stream.md R180 to
R183), and the frame decoder (spec/44_frame_decoder.md R200 to R205). -/

namespace Sys2Proof.Machine

/-- The marker positions of a frame (43_symbol_stream.md R181). -/
def markerPositions : List Nat := [0, 9, 19, 29, 39, 49, 59]

/-- The stream after a symbol is pushed at the newest end, slot `STREAM_LEN - 1` (43_symbol_stream.md R180). -/
def pushSymbol (c : Params) (sym : Symbol) (stream : Vector Symbol 60) : Vector Symbol 60 :=
  Vector.ofFn fun i =>
    if i.val + 1 = c.streamLen then sym
    else if h : i.val < 59 ∧ i.val + 1 < c.streamLen then stream[i.val + 1]
    else stream[i]

/-- A position scores when it holds what a frame holds there (43_symbol_stream.md R181). -/
def positionScores (i : Nat) (sym : Symbol) : Bool :=
  if markerPositions.contains i then sym == .marker else sym == .zero || sym == .one

/-- The frame-alignment score of the `STREAM_LEN` slots (43_symbol_stream.md R181). -/
def frameAlignment (c : Params) (stream : Vector Symbol 60) : Nat :=
  (List.finRange 60).countP fun i => decide (i.val < c.streamLen) && positionScores i.val stream[i]

/-- `b(i)` (44_frame_decoder.md R201). -/
def frameBit (stream : Vector Symbol 60) (i : Fin 60) : Nat := if stream[i] = .one then 1 else 0

/-- The digits of a frame (44_frame_decoder.md R201). -/
structure FrameDigits where
  minuteTens : Nat
  minuteUnits : Nat
  hourTens : Nat
  hourUnits : Nat
  dayHundreds : Nat
  dayTens : Nat
  dayUnits : Nat
  yearTens : Nat
  yearUnits : Nat
  leapYear : Nat
  deriving DecidableEq, Repr

/-- Field extraction: positions and weights (44_frame_decoder.md R201). -/
def frameDigits (stream : Vector Symbol 60) : FrameDigits :=
  let b := frameBit stream
  { minuteTens := 4 * b 1 + 2 * b 2 + b 3
    minuteUnits := 8 * b 5 + 4 * b 6 + 2 * b 7 + b 8
    hourTens := 2 * b 12 + b 13
    hourUnits := 8 * b 15 + 4 * b 16 + 2 * b 17 + b 18
    dayHundreds := 2 * b 22 + b 23
    dayTens := 8 * b 25 + 4 * b 26 + 2 * b 27 + b 28
    dayUnits := 8 * b 30 + 4 * b 31 + 2 * b 32 + b 33
    yearTens := 8 * b 45 + 4 * b 46 + 2 * b 47 + b 48
    yearUnits := 8 * b 50 + 4 * b 51 + 2 * b 52 + b 53
    leapYear := b 55 }

/-- `minutes` (R201). -/
def FrameDigits.minutes (d : FrameDigits) : Nat := 10 * d.minuteTens + d.minuteUnits

/-- `hours` (R201). -/
def FrameDigits.hours (d : FrameDigits) : Nat := 10 * d.hourTens + d.hourUnits

/-- `day_of_year` (R201). -/
def FrameDigits.day (d : FrameDigits) : Nat := 100 * d.dayHundreds + 10 * d.dayTens + d.dayUnits

/-- `year_last_two` (R201). -/
def FrameDigits.year (d : FrameDigits) : Nat := 10 * d.yearTens + d.yearUnits

/-- The range check (44_frame_decoder.md R202). -/
def FrameDigits.inRange (d : FrameDigits) : Bool :=
  decide (d.minuteUnits ≤ 9) && decide (d.hourUnits ≤ 9) && decide (d.dayTens ≤ 9) && decide (d.dayUnits ≤ 9)
    && decide (d.yearTens ≤ 9) && decide (d.yearUnits ≤ 9) && decide (d.minutes ≤ 59) && decide (d.hours ≤ 23)
    && decide (1 ≤ d.day) && decide (d.day ≤ 365 + d.leapYear)

/-- The time of day an accepted frame loads (44_frame_decoder.md R203): the next minute, `FRAME_TICKS_DELTA` ticks in. -/
def FrameDigits.load (c : Params) (d : FrameDigits) (t : TimeOfDay) : TimeOfDay :=
  let start : TimeOfDay :=
    { t with
      minutes := trunc8 d.minutes
      hours := trunc8 d.hours
      day := trunc16 d.day
      year := trunc16 (2000 + d.year)
      isLeapYear := d.leapYear == 1
      seconds := 0#8
      ticks := 0#8 }
  { TimeOfDay.advanceBy c.frameTicksDelta start.minuteCarry with hasFix := true }

/-- `FRAME_DECODE()` (44_frame_decoder.md R200, R202, R203). -/
def State.frameDecode (c : Params) (s : State) : State :=
  let d := frameDigits s.stream
  if d.inRange then { s with decRej := false, tod := d.load c s.tod } else { s with decRej := true }

/-- `FRAME_SCORE_UPDATE()` (43_symbol_stream.md R181). -/
def State.frameScoreUpdate (c : Params) (s : State) : State :=
  let n := frameAlignment c s.stream
  let scored := { s with frameScore := trunc8 n }
  if n = 60 then (scored.raiseFlag .validFrame).frameDecode c else scored

/-- `SS_SHIFT(sym)` (43_symbol_stream.md R180). -/
def State.ssShift (c : Params) (sym : Symbol) (s : State) : State :=
  { s with stream := pushSymbol c sym s.stream }.frameScoreUpdate c

end Sys2Proof.Machine
end

