-- ==== Sys2Proof/Machine/Acquisition.lean ====
section
/-! DEFINITION. Component G: the acquisition and tracking state machine, step 5 of TICK
(spec/45_acquisition.md R220 to R229). -/

namespace Sys2Proof.Machine

/-- `ENTER_SYNC()` (R222). `SEEK_COUNT` keeps its value. -/
def Acquisition.enterSync (c : Params) (a : Acquisition) : Acquisition :=
  { a with
    mode := .sync
    peekIn := trunc8 c.symbolTicks
    missed := 0#8
    lastOffset := 0#8
    acc := 0#16
    tss := 0#32
    tsp := 0#32 }

/-- `ENTER_SEEK()` (R226). -/
def Acquisition.enterSeek (a : Acquisition) : Acquisition := { a with mode := .seek, seekCount := 0#8 }

/-- The counters after a SEEK detection: one more, and SYNC at the threshold (R221). -/
def Acquisition.countDetection (c : Params) (a : Acquisition) : Acquisition :=
  let counted := { a with seekCount := a.seekCount + 1#8 }
  if c.seekDetectedThreshold ≤ counted.seekCount.toNat then counted.enterSync c else counted

/-- `SEEK_TICK()` (R221). -/
def State.seekTick (c : Params) (s : State) : State :=
  match detectSeek c s.board with
  | some sym =>
    let pushed := s.ssShift c sym
    { pushed with acq := pushed.acq.countDetection c }
  | none => s

/-- The counters after a SYNC detection with an offset (R224, R225). -/
def Acquisition.hit (c : Params) (off : Int) (a : Acquisition) : Acquisition :=
  { a with
    missed := 0#8
    lastOffset := BitVec.ofInt 8 off
    acc := BitVec.ofInt 16 (a.acc.toInt + off)
    peekIn := BitVec.ofInt 8 ((c.symbolTicks : Int) + off) }

/-- The counters after a missed peek: one more miss, and SEEK at the threshold (R224). -/
def Acquisition.miss (c : Params) (a : Acquisition) : Acquisition :=
  let counted := { a with missed := a.missed + 1#8, peekIn := trunc8 c.symbolTicks }
  if c.syncMissThreshold ≤ counted.missed.toNat then counted.enterSeek else counted

/-- `PEEK()` (R224). -/
def State.peek (c : Params) (s : State) : State :=
  match detectSync c s.board with
  | some (sym, off) =>
    let pushed := s.ssShift c sym
    { pushed with acq := pushed.acq.hit c off }
  | none =>
    let pushed := s.ssShift c .missing
    { pushed with acq := pushed.acq.miss c }

/-- The discipline trigger: both comparisons strict (R227). -/
def Acquisition.disciplineDue (c : Params) (a : Acquisition) : Bool :=
  decide (c.driftTrigger < a.acc.toInt.natAbs) && decide (c.minDisciplineTicks < a.tss.toNat)

/-- `apparent_ticks = TSS - ACC` (R227), exact and signed. -/
def Acquisition.apparentTicks (a : Acquisition) : Int := (a.tss.toNat : Int) - a.acc.toInt

/-- `DISCIPLINE_CHECK()` (R227). -/
def State.disciplineCheck (c : Params) (s : State) : Except Fault State :=
  if s.acq.disciplineDue c then
    match s.clock.adjust c s.acq.tss.toNat s.acq.apparentTicks with
    | .error f => .error f
    | .ok k =>
      .ok ({ s with clock := k, acq := { s.acq with acc := 0#16, tss := 0#32 } }.raiseFlagIf
        (k.scaled != s.clock.scaled) .tickIntervalChanged)
  else .ok s

/-- `PERSIST_CHECK()` (R228). -/
def State.persistCheck (c : Params) (s : State) : State :=
  if c.persistAfterTicks ≤ s.acq.tsp.toNat then
    { s with acq := { s.acq with tsp := 0#32 } }.raiseFlag .paramsUnsaved
  else s

/-- The countdown and the peek of a SYNC tick (R223). -/
def State.countDown (c : Params) (s : State) : State :=
  let down := { s with acq := { s.acq with peekIn := s.acq.peekIn - 1#8 } }
  if down.acq.peekIn = 0#8 then down.peek c else down

/-- `SYNC_TICK()` (R223): the checks are skipped on the tick whose peek returned to SEEK. -/
def State.syncTick (c : Params) (s : State) : Except Fault State :=
  let peeked := s.countDown c
  match peeked.acq.mode with
  | .seek => .ok peeked
  | .sync =>
    match peeked.disciplineCheck c with
    | .error f => .error f
    | .ok t => .ok (t.persistCheck c)

/-- Step 5 of TICK: the dispatch on `MODE` (R220). -/
def State.acquisitionTick (c : Params) (s : State) : Except Fault State :=
  match s.acq.mode with
  | .seek => .ok (s.seekTick c)
  | .sync => s.syncTick c

end Sys2Proof.Machine
end

