-- ==== Sys2Proof/Machine/Tick.lean ====
section
/-! DEFINITION. Component K: the TICK command (spec/49_tick_and_port.md R320 to R325). -/

namespace Sys2Proof.Machine

/-- Step 4: both counters count every TICK, and wrap modulo 2^32 (R322). -/
def State.countTick (s : State) : State :=
  { s with acq := { s.acq with tss := s.acq.tss + 1#32, tsp := s.acq.tsp + 1#32 } }

/-- Steps 2 to 4: shift the sample in, score it, shift the boards, count the tick (R320). -/
def State.takeSample (c : Params) (b : Bool) (s : State) : State := ((s.srShift c b).scoreAndShift c).countTick

/-- Steps 6 to 8: advance the time of day, set `needs_ui_refresh`, choose the next period (R320, R323, R324). -/
def State.finishTick (c : Params) (s : State) : State := (s.todAdvance.raiseFlag .needsUiRefresh).cadence c

/-- The eight steps of a TICK (R320). -/
def State.tick (c : Params) (b : Bool) (s : State) : Except Fault State :=
  match (s.takeSample c b).acquisitionTick c with
  | .ok t => .ok (t.finishTick c)
  | .error f => .error f

/-- `TICK s` (R320). -/
def execTickWith (c : Params) (b : Bool) (s : State) : Host.Outcome State Fault Refusal :=
  match s.tick c b with
  | .ok t => .next t.complete
  | .error f => .fault f

/-- `TICK s` of the specified hardware. -/
def execTick (b : Bool) (s : State) : Host.Outcome State Fault Refusal := execTickWith Config.block b s

end Sys2Proof.Machine
end

