-- ==== Sys2Proof/Machine/Dispatch.lean ====
section
/-! DEFINITION. The dispatch of a decoded command to its meaning (spec/49_tick_and_port.md R319). -/

namespace Sys2Proof.Machine

/-- `EXECUTE` of a legal command (R319): one arm per row of spec/opcode_table.json. -/
def exec (i : Instr) (s : State) : Host.Outcome State Fault Refusal :=
  match i with
  | .tick b => Sys2Proof.Machine.execTick b s
  | .rd a => Sys2Proof.Machine.execRd a s
  | .clrf m => Sys2Proof.Machine.execClrf m s
  | .reset p => Sys2Proof.Machine.execReset p s

end Sys2Proof.Machine
end

