-- ==== Sys2Proof/Machine/Execute.lean ====
section
/-! DEFINITION. `EXECUTE`: one command word, and the next command of the environment (spec/49_tick_and_port.md R319,
spec/60_exceptions.md R350, spec/70_reset_and_hazards.md R385). -/

namespace Sys2Proof.Machine

/-- `EXECUTE(w)` of the word on `cmd` (R319), whatever runs a decoded command: a legal word runs its command, an illegal
one takes IllegalCommand (60_exceptions.md R350). -/
def executeBy (run : Instr → State → Host.Outcome State Fault Refusal) (w : CommandWord) (s : State) :
    Host.Outcome State Fault Refusal :=
  match decode w with
  | .ok i => run i s
  | .error cause => .next (s.raiseIllegal cause w)

/-- `EXECUTE(w)` of the specified hardware. -/
def execute (w : CommandWord) (s : State) : Host.Outcome State Fault Refusal := executeBy exec w s

/-- The next command of the environment: idle when nothing is presented (60_exceptions.md R365), a fault when a command
is presented before `cmd_done` (70_reset_and_hazards.md R385), else the presented command. -/
def executeNextBy (run : Instr → State → Host.Outcome State Fault Refusal) (s : State) :
    Host.Outcome State Fault Refusal :=
  match s.schedule with
  | [] => .next s.idle
  | p :: rest => if p.early then .fault .earlyCommand else executeBy run p.word (s.accept p rest)

/-- The next command of the environment, in the specified hardware. -/
def executeNext (s : State) : Host.Outcome State Fault Refusal := executeNextBy exec s

end Sys2Proof.Machine
end

