-- ==== Sys2Proof/Machine/Step.lean ====
section
/-! DEFINITION. One step of the machine: the next command of the environment is presented and executed, from its strobe
to its `cmd_done` (spec/49_tick_and_port.md R319, spec/20_memory.md R70). -/

namespace Sys2Proof.Machine

/-- One step (R319, 20_memory.md R70): one command of the environment, atomically. -/
def step (s : State) : Host.Outcome State Fault Refusal := executeNext s

/-- The state in which the environment presents next the command whose bits are `w`: it is put before whatever else is
scheduled, with the record bytes that stand on `cal_in`, so that the next step runs exactly it. -/
def State.withFetchWord (s : State) (nbits w : Nat) : State := s.presentNext (wordOfBits nbits w)

end Sys2Proof.Machine
end

