-- ==== Sys2Proof/Machine/Configured.lean ====
section
/-! DEFINITION. The machine with its parameters and its first RESET as arguments (spec/00_scope.md R7: "A model takes each
as an argument"; spec/70_reset_and_hazards.md R382). `exec`, `step` and `State.reset` are its case at the "value" column
of R7, with p = 0. -/

namespace Sys2Proof.Machine

/-- `EXECUTE` of a legal command (49_tick_and_port.md R319) under a configuration. -/
def execWith (c : Params) (i : Instr) (s : State) : Host.Outcome State Fault Refusal :=
  match i with
  | .tick b => execTickWith c b s
  | .rd a => execRdWith c a s
  | .clrf m => execClrf m s
  | .reset p => execResetWith c p s

/-- One step under a configuration. -/
def stepWith (c : Params) (s : State) : Host.Outcome State Fault Refusal := executeNextBy (execWith c) s

/-- The machine of a configuration, right after a RESET with operand `p` and record `r`; a configuration that the spec
does not define is refused (93_implementation_defined.md: "the model must not be built or run in that configuration"). -/
def configure (c : Params) (p : Bool) (r : CalRecord) : Except Refusal Host.Core :=
  if c.wellFormed then
    .ok { State := State, Fault := Fault, Refusal := Refusal, step := stepWith c, reset := State.afterReset c p r }
  else .error .configurationUndefined

end Sys2Proof.Machine
end

