-- ==== Sys2Proof/Machine/Assembler.lean ====
section
/-! DEFINITION. The lines of the spec's test programs and its pseudo-commands, as the commands the environment presents
(spec/30_encoding.md R102, R103). The written spelling of a line is not modelled, its meaning is. -/

namespace Sys2Proof.Machine

/-- One line of R102. -/
inductive AsmLine where
  | tick (s : Bool)
  | rd (a : BitVec 8)
  | clrf (m : BitVec 6)
  /-- `RESET`: p = 0 -/
  | reset
  /-- `RESET cal=b0 b1 b2 b3 b4`: p = 1, the five bytes in record order on `cal_in` -/
  | resetCal (b0 b1 b2 b3 b4 : Byte)
  /-- `.word`: a raw word, legal or not -/
  | word (w : CommandWord)
  deriving DecidableEq, Repr

/-- The word a line assembles to (R102). -/
def AsmLine.assemble : AsmLine → CommandWord
  | .tick s => encode (.tick s)
  | .rd a => encode (.rd a)
  | .clrf m => encode (.clrf m)
  | .reset => encode (.reset false)
  | .resetCal _ _ _ _ _ => encode (.reset true)
  | .word w => w

/-- The record bytes a line puts on `cal_in`: byte b in bits 8b+7 : 8b (R92, R102). Only `RESET cal=` names them. DESIGN
CHOICE (assumption log 20): every other line presents five zero bytes, which only a `.word 0xF001` can show, since RESET
with p = 1 alone reads `cal_in` (R97). -/
def AsmLine.calIn : AsmLine → CalRecord
  | .resetCal b0 b1 b2 b3 b4 => b4 ++ b3 ++ b2 ++ b1 ++ b0
  | _ => 0#40

/-- The line as the environment presents it, after the `cmd_done` of the line before. -/
def AsmLine.present (l : AsmLine) : Presentation := ⟨l.assemble, l.calIn, customaryAgent l.assemble, false⟩

/-- How many of a second's 60 samples are high, the first ones (R103, "12 high then 48 low", and so on). -/
def Board.pulse : Board → Nat
  | .Z => 12
  | .O => 30
  | .M => 48

/-- A pseudo-command of R103. -/
inductive Pseudo where
  | ticks (n : Nat) (s : Bool)
  | wave (k : Board)
  | send (k : Board)
  | rd16 (a : BitVec 8)
  | rd32 (a : BitVec 8)
  | clrAll
  deriving DecidableEq, Repr

/-- The expansion of a pseudo-command (R103). DESIGN CHOICE (assumption log 21): where `a+1` to `a+3` pass 0xFF, which no
RD can name, the address wraps modulo 256. -/
def Pseudo.expand : Pseudo → List AsmLine
  | .ticks n s => List.replicate n (.tick s)
  | .wave k => List.replicate k.pulse (.tick true) ++ List.replicate (60 - k.pulse) (.tick false)
  | .send k => (List.range 80).map fun n => .tick ((template Config.block k).getLsbD (79 - n))
  | .rd16 a => [.rd a, .rd (a + 1#8)]
  | .rd32 a => [.rd a, .rd (a + 1#8), .rd (a + 2#8), .rd (a + 3#8)]
  | .clrAll => [.clrf 0x3F#6]

end Sys2Proof.Machine
end

