-- ==== Sys2Proof/Machine/Conforming.lean ====
section
/-! DEFINITION. The other algorithms the spec writes out and calls conforming: the byte-wise shift and score
(spec/40_sample_correlator.md R120, R125), the incremental peak (spec/41_scoreboard.md R142) and the muldiv without
wide products (spec/46_clock_discipline.md R251). The machine uses the plain forms; that each pair agrees is stated in
the obligations. -/

namespace Sys2Proof.Machine

/-- One byte of the byte-wise shift: each byte rotates left through carry (40_sample_correlator.md R120). -/
def rotateByte (carry : Bool) (b : Byte) : Byte := b.setWidth 7 ++ BitVec.ofBool carry

/-- Byte `j` of the sample register after the byte-wise shift of sample `b` (R120): byte 0 takes the sample, every other
byte the bit that leaves the byte below it. -/
def srShiftByte (b : Bool) (sr : SampleWord) (j : Nat) : Byte :=
  rotateByte (if j = 0 then b else (byteAt sr (j - 1)).getLsbD 7) (byteAt sr j)

/-- The byte-wise score: XOR, complement and popcount in each of the ten lanes, and the sum (R125, R126). -/
def scoreBytewise (c : Params) (k : Board) (sr : SampleWord) : Nat :=
  ((List.range 10).map fun j => popcount (~~~(byteAt sr j ^^^ byteAt (template c k) j))).sum

/-- The cached peak maintained incrementally under the LOWEST tie rule (41_scoreboard.md R142): a new maximum takes
index 0, an evicted maximum forces the full scan, and any other peak grows one slot older. -/
def Scoreboard.peakIncremental (c : Params) (v : Byte) (b : Scoreboard) : Byte × Nat :=
  if b.peakV.toNat ≤ v.toNat then (v, 0)
  else if b.peakI.toNat + 1 = activeLen c then
    peakOf .lowest 0 ({ b with slots := shiftSlots c v b.slots }.activeSlots c)
  else (b.peakV, b.peakI.toNat + 1)

/-- One bit of the muldiv (46_clock_discipline.md R251): double, reduce, and add `a` when the bit of `b` is 1. -/
def muldivStep (qa ra c : Nat) (qr : Nat × Nat) (bit : Bool) : Nat × Nat :=
  let q := 2 * qr.1
  let r := 2 * qr.2
  let (q, r) := if c ≤ r then (q + 1, r - c) else (q, r)
  if bit then
    if c ≤ r + ra then (q + qa + 1, r + ra - c) else (q + qa, r + ra)
  else (q, r)

/-- The bits of `b`, most significant first. -/
def bitsMsbFirst (width b : Nat) : List Bool := ((List.range width).map b.testBit).reverse

/-- The quotient and remainder of the binary muldiv of R251. -/
def muldivBinary (width a b c : Nat) : Nat × Nat :=
  (bitsMsbFirst width b).foldl (muldivStep (a / c) (a % c) c) (0, 0)

end Sys2Proof.Machine
end

