-- ==== Sys2Proof/Safety.lean ====
section
/-! DEFINITION. What counts as a safe state and a safe run, in the terms the statements use: the ranges of
spec/10_state.md R20, the invariants of R25, R30 and R32, and the bounds of spec/46_clock_discipline.md R258. -/

namespace Sys2Proof.Machine

/-- The time of day is normalised, and the two flags nothing sets are false (10_state.md R32, R33). -/
abbrev TimeOfDay.Normal (t : TimeOfDay) : Prop :=
  t.ticks.toNat < 60 ∧ t.seconds.toNat < 60 ∧ t.minutes.toNat < 60 ∧ t.hours.toNat < 24
    ∧ 1 ≤ t.day.toNat ∧ t.day.toNat ≤ t.lastDay ∧ t.isDst = false ∧ t.isLeapMinute = false

/-- The cached peak is the maximum and names the most recent slot that holds it (10_state.md R25, 41_scoreboard.md
R141). -/
abbrev Scoreboard.PeakCached (b : Scoreboard) : Prop :=
  b.peakI.toNat < 11 ∧ b.slots.toList.getD b.peakI.toNat 0#8 = b.peakV
    ∧ (∀ i : Fin 11, b.slots[i].toNat ≤ b.peakV.toNat)
    ∧ (∀ i : Fin 11, i.val < b.peakI.toNat → b.slots[i].toNat < b.peakV.toNat)

/-- A board that holds scores, the newest of them `v` (10_state.md R20, R24, R25). -/
abbrev Scoreboard.Holds (v : Byte) (b : Scoreboard) : Prop :=
  b.PeakCached ∧ (∀ i : Fin 11, b.slots[i].toNat ≤ 80) ∧ b.slots[(0 : Fin 11)] = v

/-- The clock parameters lie within 5% of nominal, and the cadence fields in their ranges (10_state.md R30, R31). -/
abbrev Clock.InRange (k : Clock) : Prop :=
  2026666 ≤ k.scaled.toNat ∧ k.scaled.toNat ≤ 2239998 ∧ k.fracAcc.toNat < 64
    ∧ (k.period = k.whole Config.block ∨ k.period = k.whole Config.block + 1#16) ∧ k.compare = k.period - 1#16

/-- The acquisition counters lie in the ranges of 10_state.md R20. In SEEK fewer than ten detections have been
counted, in SYNC exactly ten; a SYNC episode has a peek ahead of it, fewer than six misses behind it, and no overdue
persistence request (45_acquisition.md R221 to R228). -/
abbrev Acquisition.InRange (a : Acquisition) : Prop :=
  (a.mode = .seek → a.seekCount.toNat < 10) ∧ (a.mode = .sync → a.seekCount.toNat = 10)
    ∧ a.peekIn.toNat ≤ 65 ∧ (a.mode = .sync → 1 ≤ a.peekIn.toNat)
    ∧ a.missed.toNat ≤ 6 ∧ (a.mode = .sync → a.missed.toNat < 6)
    ∧ a.lastOffset.toInt.natAbs ≤ 5 ∧ (a.mode = .sync → a.tsp.toNat < 500000)

/-- The accumulated offset never exceeds 110 in magnitude (46_clock_discipline.md R258). In SYNC each peek adds at most
5 to it and peeks are at least 55 TICKs apart, and above 15 the adjust fires once `TSS` exceeds 1000. -/
abbrev Acquisition.OffsetBounded (a : Acquisition) : Prop :=
  a.acc.toInt.natAbs ≤ 110
    ∧ (a.mode = .sync →
        a.acc.toInt.natAbs ≤ 15 + 5 * ((a.tss.toNat + a.peekIn.toNat) / 55)
          ∧ (1000 < a.tss.toNat → a.acc.toInt.natAbs ≤ 15))

/-- The error registers hold no error, or an illegal word with its own cause (60_exceptions.md R350, R351). -/
abbrev ErrorRecord.Consistent (e : ErrorRecord) : Prop :=
  (e.err = false → e.cause = 0#8 ∧ e.cmd = 0#16)
    ∧ (e.err = true →
        (match decode e.cmd with
          | .ok _ => false
          | .error k => e.cause == k.code) = true)

/-- THE INVARIANT: what holds of the block after RESET and after every command. -/
structure State.Inv (s : State) : Prop where
  tod : s.tod.Normal
  boardZ : s.board.z.Holds s.score.z
  boardO : s.board.o.Holds s.score.o
  boardM : s.board.m.Holds s.score.m
  frameScore : s.frameScore.toNat = frameAlignment Config.block s.stream
  clock : s.clock.InRange
  acq : s.acq.InRange
  offset : s.acq.OffsetBounded
  error : s.error.Consistent
  calStatus : s.calStatus.toNat ≤ 2
  outputs : s.ports.periodOut = s.clock.period ∧ s.ports.compareOut = s.clock.compare

/-- The environment keeps the handshake: it presents every command after the `cmd_done` before it
(70_reset_and_hazards.md R385). -/
abbrev State.HandshakeKept (s : State) : Prop := ∀ p ∈ s.schedule, p.early = false

/-- The symbol a TICK pushes into the stream, if any (45_acquisition.md R221, R223, R224): in SEEK a detected symbol, in
SYNC on the tick whose countdown reaches 0 the detected symbol or `'-'`. -/
def State.pushes (b : Bool) (s : State) : Option Symbol :=
  let boards := (s.takeSample Config.block b).board
  match s.acq.mode with
  | .seek => detectSeek Config.block boards
  | .sync =>
    if s.acq.peekIn.toNat = 1 then
      match detectSync Config.block boards with
      | some (sym, _) => some sym
      | none => some .missing
    else none

/-- The stream after the TICK's push, if any. -/
def State.streamAfter (b : Bool) (s : State) : Vector Symbol 60 :=
  match s.pushes b with
  | some sym => pushSymbol Config.block sym s.stream
  | none => s.stream

/-- The TICK pushes a symbol that completes a frame (43_symbol_stream.md R181). -/
def State.completesFrame (b : Bool) (s : State) : Bool :=
  (s.pushes b).isSome && frameAlignment Config.block (s.streamAfter b) == 60

/-- The TICK accepts a frame: it completes one whose fields pass the range check (44_frame_decoder.md R202). -/
def State.acceptsFrame (b : Bool) (s : State) : Bool :=
  s.completesFrame b && (frameDigits (s.streamAfter b)).inRange

/-- The ticks since midnight of a normalised time of day. -/
def TimeOfDay.tickOfDay (t : TimeOfDay) : Nat :=
  ((t.hours.toNat * 60 + t.minutes.toNat) * 60 + t.seconds.toNat) * 60 + t.ticks.toNat

/-- The number a consumer assembles from `n` bytes read at `base`, the lowest address first (20_memory.md R66). -/
def readField (s : State) (base : Byte) : Nat → Nat
  | 0 => 0
  | n + 1 => (readReg s base).toNat + 256 * readField s (base + 1#8) n

/-- The reserved addresses (20_memory.md R64), as ranges from the first to the last. -/
def reservedRanges : List (Nat × Nat) :=
  [(0x0F, 0x0F), (0x19, 0x1F), (0x2E, 0x2F), (0x3C, 0x3F), (0x4A, 0x4F), (0x5B, 0x5F), (0x6B, 0x6F), (0x7B, 0x7F),
    (0x85, 0x9F), (0xDC, 0xDF), (0xFE, 0xFF)]

/-- `n` scores shifted into a board, the first of the list first (41_scoreboard.md R140). -/
def Scoreboard.shiftAll (c : Params) : List Byte → Scoreboard → Scoreboard
  | [], b => b
  | v :: vs, b => shiftAll c vs (b.shift c v)

/-- `n` cadence steps of the specified hardware (46_clock_discipline.md R255). -/
def Clock.cadences : Nat → Clock → Clock
  | 0, k => k
  | n + 1, k => cadences n (k.cadence Config.block)

/-- Bit `j` of the BCD digit of `n` whose weight is `unit` (44_frame_decoder.md R201). -/
def digitBit (n unit j : Nat) : Bool := (n / unit % 10).testBit j

/-- Whether the frame of (minutes, hours, day, last two digits of the year, leap year) holds a 1 at a position
(44_frame_decoder.md R201, the column "positions and weights"). -/
def frameOne (m h d y : Nat) (ly : Bool) (i : Nat) : Bool :=
  match i with
  | 1 => digitBit m 10 2 | 2 => digitBit m 10 1 | 3 => digitBit m 10 0
  | 5 => digitBit m 1 3 | 6 => digitBit m 1 2 | 7 => digitBit m 1 1 | 8 => digitBit m 1 0
  | 12 => digitBit h 10 1 | 13 => digitBit h 10 0
  | 15 => digitBit h 1 3 | 16 => digitBit h 1 2 | 17 => digitBit h 1 1 | 18 => digitBit h 1 0
  | 22 => digitBit d 100 1 | 23 => digitBit d 100 0
  | 25 => digitBit d 10 3 | 26 => digitBit d 10 2 | 27 => digitBit d 10 1 | 28 => digitBit d 10 0
  | 30 => digitBit d 1 3 | 31 => digitBit d 1 2 | 32 => digitBit d 1 1 | 33 => digitBit d 1 0
  | 45 => digitBit y 10 3 | 46 => digitBit y 10 2 | 47 => digitBit y 10 1 | 48 => digitBit y 10 0
  | 50 => digitBit y 1 3 | 51 => digitBit y 1 2 | 52 => digitBit y 1 1 | 53 => digitBit y 1 0
  | 55 => ly
  | _ => false

/-- The 60 symbols of that frame: markers at their positions, and the other positions 0 unless they hold a 1. -/
def frameStream (m h d y : Nat) (ly : Bool) : Vector Symbol 60 :=
  Vector.ofFn fun i =>
    if markerPositions.contains i.val then .marker else if frameOne m h d y ly i.val then .one else .zero

/-- The sample register at the alignment tick of a clean second (40_sample_correlator.md R129): the last 10 samples of
the second before, the 60 of this one and the first 10 of the next, oldest first. -/
def cleanWindow (before this next : Board) : SampleWord :=
  BitVec.ofBoolListBE ((List.range 80).map fun n =>
    if n < 10 then decide (50 + n < before.pulse)
    else if n < 70 then decide (n - 10 < this.pulse)
    else decide (n - 70 < next.pulse)) |>.setWidth 80

/-- The fields of the block, the ports and the schedule left out (10_state.md R20). -/
abbrev State.SameBlock (s t : State) : Prop :=
  s.sr = t.sr ∧ s.score = t.score ∧ s.board = t.board ∧ s.stream = t.stream ∧ s.frameScore = t.frameScore
    ∧ s.acq = t.acq ∧ s.clock = t.clock ∧ s.tod = t.tod ∧ s.decRej = t.decRej ∧ s.error = t.error
    ∧ s.flags = t.flags ∧ s.calStatus = t.calStatus

end Sys2Proof.Machine
end

