-- ==== Sys2Proof/Certificates/Slice0/Obligations.lean ====
section
/-! DEFINITION. The statements for the provers, one `def Obligations.<Name> : Prop` each; OBLIGATIONS.json says of each
which rules of spec/ it formalises. -/

open Sys2Proof Sys2Proof.Machine

/-! ### Encoding (30_encoding.md) -/

/-- Decode and encode agree on every command and on every word: each legal word is the word of exactly one command
(R91, R93 to R98). -/
def Obligations.DecodeAndEncodeAgree : Prop :=
  (∀ i : Instr, decode (encode i) = .ok i) ∧ ∀ (w : CommandWord) (i : Instr), decode w = .ok i → encode i = w

/-- Which words are illegal, with which cause, and what an illegal word changes: the error registers alone, no `rdata`
(R99). -/
def Obligations.IllegalWordsAndTheirEffect : Prop :=
  ∀ (w : CommandWord) (s : State),
    (decode w = .error .reservedOpcode ↔
        (w.extractLsb' 12 4).toNat = 0 ∨ (4 ≤ (w.extractLsb' 12 4).toNat ∧ (w.extractLsb' 12 4).toNat ≤ 14))
      ∧ (decode w = .error .reservedOperand ↔
          (((w.extractLsb' 12 4).toNat = 1 ∨ (w.extractLsb' 12 4).toNat = 15) ∧ w.extractLsb' 1 11 ≠ 0#11)
            ∨ ((w.extractLsb' 12 4).toNat = 2 ∧ w.extractLsb' 8 4 ≠ 0#4)
            ∨ ((w.extractLsb' 12 4).toNat = 3 ∧ w.extractLsb' 6 6 ≠ 0#6))
      ∧ (∀ cause, decode w = .error cause →
          ∃ t, execute w s = .next t
            ∧ t = { s with
                error := t.error
                ports := { s.ports with cmdValid := t.ports.cmdValid, cmdDone := t.ports.cmdDone } })

/-- Words written out bit by bit from R93 decode to the command they stand for. -/
def Obligations.WrittenWordsDecode : Prop :=
  decode 0b0001000000000001#16 = .ok (.tick true) ∧ decode 0b0001000000000000#16 = .ok (.tick false)
    ∧ decode 0b0010000000110000#16 = .ok (.rd 0x30#8) ∧ decode 0b0011000000010001#16 = .ok (.clrf 0x11#6)
    ∧ decode 0b1111000000000001#16 = .ok (.reset true) ∧ decode 0b1111000000000000#16 = .ok (.reset false)

/-! ### The step and the port (49_tick_and_port.md, 60_exceptions.md) -/

/-- A step runs the decoded command: the presented word's command is executed on the state in which the word and the
record bytes stand on the ports and the rest of the schedule is still to come (R319). That the ports are fields which
hold the presented values, with the two strobes, is the model's (assumption log 2). -/
def Obligations.StepRunsTheDecodedCommand : Prop :=
  ∀ (s : State) (p : Presentation) (rest : List Presentation) (i : Instr),
    s.schedule = p :: rest → p.early = false → decode p.word = .ok i →
      step s = exec i
        { s with
          ports := { s.ports with cmd := p.word, cmdValid := true, calIn := p.calIn, cmdDone := false }
          schedule := rest }

/-- Taking IllegalCommand: an illegal word ends its command with no effect but the error registers, which keep the first
error's record, and the block goes on to the next command (R350, R354, R355). -/
def Obligations.IllegalWordTakesTheException : Prop :=
  ∀ (s : State) (p : Presentation) (rest : List Presentation) (cause : IllegalCause),
    s.schedule = p :: rest → p.early = false → decode p.word = .error cause →
      ∃ t, step s = .next t ∧ t.schedule = rest
        ∧ t.error = (if s.error.err then s.error else ⟨true, cause.code, p.word⟩)
        ∧ Machine.State.SameBlock { s with error := t.error } t
        ∧ t.ports = { s.ports with
            cmd := p.word, cmdValid := t.ports.cmdValid, calIn := p.calIn, cmdDone := true }

/-- The error registers record the first illegal command since reset, and only RESET clears them: an illegal word is
recorded when no error is, RESET clears the record, and no other step changes it (R37). -/
def Obligations.ErrorRecordKeptUntilReset : Prop :=
  ∀ (s t : State), step s = .next t →
    (t.error ≠ s.error →
        ∃ p rest, s.schedule = p :: rest
          ∧ ((∃ b, decode p.word = .ok (.reset b)) ∨ (s.error.err = false ∧ ∃ cause, decode p.word = .error cause)))
      ∧ ∀ p rest, s.schedule = p :: rest →
          (∀ b, decode p.word = .ok (.reset b) → t.error = ⟨false, 0#8, 0#16⟩)
            ∧ ∀ cause, decode p.word = .error cause → s.error.err = false → t.error = ⟨true, cause.code, p.word⟩

/-- With nothing presented the block is idle: no field changes but the two strobes, whose fall is the model's
(assumption log 2). -/
def Obligations.IdleWithoutACommand : Prop :=
  ∀ s : State, s.schedule = [] →
    step s = .next { s with ports := { s.ports with cmdValid := false, cmdDone := false } }

/-- THE MODEL'S CHOICE (assumption log 3): a command presented before `cmd_done` of the one before it stops the machine
with a fault of its own name, as 93_implementation_defined.md section 2 directs. -/
def Obligations.EarlyCommandStops : Prop :=
  ∀ (s : State) (p : Presentation) (rest : List Presentation),
    s.schedule = p :: rest → p.early = true → step s = .fault .earlyCommand

/-- Every step takes exactly the next command of the total order, and nothing when none is left (20_memory.md R70). -/
def Obligations.CommandsRunInTheirTotalOrder : Prop :=
  ∀ s t : State, step s = .next t → t.schedule = s.schedule.tail

/-- The block does not check which agent issued a command. -/
def Obligations.IssuerIsNotChecked : Prop :=
  ∀ (s : State) (p : Presentation) (rest : List Presentation) (a : Agent),
    step { s with schedule := { p with agent := a } :: rest } = step { s with schedule := p :: rest }

/-! ### RD and the register space (20_memory.md, 49_tick_and_port.md R326) -/

/-- RD completes in every state, drives `rdata` with the register's byte, and changes no field of the block; every
register then reads as before (R69, R326). -/
def Obligations.ReadHasNoSideEffect : Prop :=
  ∀ (a : BitVec 8) (s : State),
    ∃ t, exec (.rd a) s = .next t
      ∧ t.ports = { s.ports with rdata := readReg s a, cmdValid := t.ports.cmdValid, cmdDone := true }
      ∧ Machine.State.SameBlock s t ∧ t.schedule = s.schedule ∧ ∀ a', readReg t a' = readReg s a'

/-- RD of a reserved address, one that the table of R64 does not list, returns 0x00 and changes nothing (R62; 0xDC to
0xDF: assumption log 11). -/
def Obligations.ReservedAddressesReadZero : Prop :=
  ∀ (a : BitVec 8) (s : State), (∃ r ∈ reservedRanges, r.1 ≤ a.toNat ∧ a.toNat ≤ r.2) →
    ∃ t, exec (.rd a) s = .next t ∧ t.ports.rdata = 0x00#8
      ∧ t = { s with
          ports := { s.ports with rdata := 0x00#8, cmdValid := t.ports.cmdValid, cmdDone := t.ports.cmdDone } }

/-- STATUS packs its eight bits, BLANK computed from the state (10_state.md R34, R35). -/
def Obligations.StatusBits : Prop :=
  ∀ s : State,
    (readReg s 0x00#8).getLsbD 0 = decide (s.acq.mode = .sync)
      ∧ (readReg s 0x00#8).getLsbD 1 = s.tod.hasFix
      ∧ (readReg s 0x00#8).getLsbD 2 = s.tod.isLeapYear
      ∧ (readReg s 0x00#8).getLsbD 3 = s.tod.isDst
      ∧ (readReg s 0x00#8).getLsbD 4 = s.tod.isLeapMinute
      ∧ (readReg s 0x00#8).getLsbD 5 = (!s.tod.hasFix && decide (45 < s.tod.ticks.toNat))
      ∧ (readReg s 0x00#8).getLsbD 6 = s.decRej
      ∧ (readReg s 0x00#8).getLsbD 7 = s.error.err

/-- Every multi-byte register but SR and the templates is little-endian, the byte at the lowest address in bits 7:0;
the signed fields are two's complement (20_memory.md R66). -/
def Obligations.MultiByteFieldsAreLittleEndian : Prop :=
  ∀ s : State,
    readField s 0x06#8 2 = s.tod.day.toNat ∧ readField s 0x08#8 2 = s.tod.year.toNat
      ∧ readField s 0x0D#8 2 = s.error.cmd.toNat
      ∧ (BitVec.ofNat 16 (readField s 0x24#8 2)).toInt = s.acq.acc.toInt
      ∧ (readReg s 0x23#8).toInt = s.acq.lastOffset.toInt
      ∧ readField s 0x26#8 4 = s.acq.tss.toNat ∧ readField s 0x2A#8 4 = s.acq.tsp.toNat
      ∧ readField s 0x30#8 4 = s.clock.scaled.toNat
      ∧ readField s 0x34#8 2 = s.clock.scaled.toNat / 64 % 2 ^ 16
      ∧ readField s 0x38#8 2 = s.clock.period.toNat ∧ readField s 0x3A#8 2 = s.clock.compare.toNat
      ∧ readReg s 0x80#8 = 2#8 ∧ readField s 0x81#8 4 = s.clock.scaled.toNat

/-- Register byte `0x40+j` holds `SR[8j+7:8j]`, and template byte `base+j` holds `T[8j+7:8j]` (20_memory.md R65). -/
def Obligations.SampleAndTemplateBytes : Prop :=
  ∀ (s : State) (j : Fin 10) (i : Fin 8),
    (readReg s (BitVec.ofNat 8 (0x40 + j.val))).getLsbD i.val = s.sr.getLsbD (8 * j.val + i.val)
      ∧ (readReg s (BitVec.ofNat 8 (0xE0 + j.val))).getLsbD i.val
          = (template Config.block .Z).getLsbD (8 * j.val + i.val)
      ∧ (readReg s (BitVec.ofNat 8 (0xEA + j.val))).getLsbD i.val
          = (template Config.block .O).getLsbD (8 * j.val + i.val)
      ∧ (readReg s (BitVec.ofNat 8 (0xF4 + j.val))).getLsbD i.val
          = (template Config.block .M).getLsbD (8 * j.val + i.val)

/-- The one-byte registers and the arrays of the register map (20_memory.md R64). -/
def Obligations.OneByteRegisters : Prop :=
  ∀ s : State,
    readReg s 0x01#8 = s.flags.setWidth 8
      ∧ readReg s 0x02#8 = s.tod.ticks ∧ readReg s 0x03#8 = s.tod.seconds ∧ readReg s 0x04#8 = s.tod.minutes
      ∧ readReg s 0x05#8 = s.tod.hours ∧ readReg s 0x0A#8 = s.frameScore ∧ readReg s 0x0B#8 = s.calStatus
      ∧ readReg s 0x0C#8 = s.error.cause
      ∧ readReg s 0x10#8 = s.score.z ∧ readReg s 0x11#8 = s.score.o ∧ readReg s 0x12#8 = s.score.m
      ∧ readReg s 0x13#8 = s.board.z.peakV ∧ readReg s 0x14#8 = s.board.z.peakI
      ∧ readReg s 0x15#8 = s.board.o.peakV ∧ readReg s 0x16#8 = s.board.o.peakI
      ∧ readReg s 0x17#8 = s.board.m.peakV ∧ readReg s 0x18#8 = s.board.m.peakI
      ∧ readReg s 0x20#8 = s.acq.seekCount ∧ readReg s 0x21#8 = s.acq.peekIn ∧ readReg s 0x22#8 = s.acq.missed
      ∧ (readReg s 0x36#8).toNat = s.clock.scaled.toNat % 64 ∧ readReg s 0x37#8 = s.clock.fracAcc
      ∧ (∀ i : Fin 11,
          readReg s (BitVec.ofNat 8 (0x50 + i.val)) = s.board.z.slots[i]
            ∧ readReg s (BitVec.ofNat 8 (0x60 + i.val)) = s.board.o.slots[i]
            ∧ readReg s (BitVec.ofNat 8 (0x70 + i.val)) = s.board.m.slots[i])
      ∧ ∀ i : Fin 60,
          readReg s (BitVec.ofNat 8 (0xA0 + i.val)) =
            match s.stream[i] with
            | .zero => 0#8
            | .one => 1#8
            | .marker => 2#8
            | .missing => 3#8

/-- The block has no state that the consumer cannot read: two states whose 256 registers read alike hold the same block
(10_state.md R44). -/
def Obligations.RegisterSpaceShowsTheWholeBlock : Prop :=
  ∀ s t : State, (∀ a, readReg s a = readReg t a) → Machine.State.SameBlock s t

/-! ### CLRF (49_tick_and_port.md R327) and the flags (10_state.md R43) -/

/-- CLRF completes in every state: the selected FLAGS bits become 0, the others and every other field keep their value,
and every other register reads as before; a CLRF word with a reserved operand bit set is illegal (R327). -/
def Obligations.ClearFlagsClearsWhatTheMaskSelects : Prop :=
  (∀ (m : BitVec 6) (s : State),
      ∃ t, exec (.clrf m) s = .next t
        ∧ (∀ j : Fin 6, t.flags.getLsbD j.val = (s.flags.getLsbD j.val && !m.getLsbD j.val))
        ∧ Machine.State.SameBlock { s with flags := t.flags } t
        ∧ t.ports = { s.ports with cmdValid := t.ports.cmdValid, cmdDone := true } ∧ t.schedule = s.schedule
        ∧ ∀ a, a ≠ 0x01#8 → readReg t a = readReg s a)
    ∧ ∀ w : CommandWord, w.extractLsb' 12 4 = 0x3#4 →
        (w.extractLsb' 6 6 = 0#6 → decode w = .ok (.clrf (w.extractLsb' 0 6)))
          ∧ (w.extractLsb' 6 6 ≠ 0#6 → decode w = .error .reservedOperand)

/-- Whatever the command, a flag that was true and is false after a step was cleared by a CLRF whose mask selects it, or
by RESET (R43). -/
def Obligations.FlagsFallOnlyByClrfOrReset : Prop :=
  ∀ (s t : State) (f : Flag), step s = .next t → s.flag f = true → t.flag f = false →
    ∃ p rest, s.schedule = p :: rest
      ∧ ((∃ m, decode p.word = .ok (.clrf m) ∧ m.getLsbD f.index = true) ∨ ∃ b, decode p.word = .ok (.reset b))

/-! ### RESET and the calibration codec (70_reset_and_hazards.md, 48_calibration.md) -/

/-- RESET completes in every state, and leaves every field at its reset value: the three that depend on the calibration
follow the `SCALED` it loaded, and the outputs are driven (R380, R381). -/
def Obligations.ResetLeavesTheResetState : Prop :=
  ∀ (p : Bool) (s : State),
    ∃ t, exec (.reset p) s = .next t
      ∧ t.sr = 0#80 ∧ t.score = ⟨0#8, 0#8, 0#8⟩
      ∧ (∀ k : Board, (t.board.get k).peakV = 0#8 ∧ (t.board.get k).peakI = 0#8
          ∧ ∀ i : Fin 11, (t.board.get k).slots[i] = 0#8)
      ∧ (∀ i : Fin 60, t.stream[i] = .missing) ∧ t.frameScore = 0#8
      ∧ t.acq = ⟨.seek, 0#8, 0#8, 0#8, 0#8, 0#16, 0#32, 0#32⟩
      ∧ t.tod = ⟨0#8, 0#8, 0#8, 0#8, 1#16, 2000#16, false, false, false, false⟩
      ∧ t.decRej = false ∧ t.error = ⟨false, 0#8, 0#16⟩ ∧ t.flags = 0#6
      ∧ t.clock.fracAcc = 0#8 ∧ t.clock.period.toNat = t.clock.scaled.toNat / 64
      ∧ t.clock.compare.toNat = t.clock.scaled.toNat / 64 - 1
      ∧ t.ports = { s.ports with
          rdata := 0#8
          periodOut := t.clock.period
          compareOut := t.clock.compare
          cmdValid := t.ports.cmdValid
          cmdDone := true }
      ∧ t.schedule = s.schedule

/-- The calibration load (48_calibration.md R301): `SCALED` and `CAL_STATUS` from the record on `cal_in`, read as a
number whose low byte is the version. A record that fails the
check leaves `CAL_STATUS` 0, as R301 says (assumption log 9). -/
def Obligations.CalibrationLoad : Prop :=
  ∀ (p : Bool) (s : State),
    ∃ t, exec (.reset p) s = .next t
      ∧ (p = true → s.ports.calIn.toNat % 256 = 1 →
          2026666 ≤ s.ports.calIn.toNat / 256 * 4 → s.ports.calIn.toNat / 256 * 4 ≤ 2239998 →
          t.clock.scaled.toNat = s.ports.calIn.toNat / 256 * 4 ∧ t.calStatus = 1#8)
      ∧ (p = true → s.ports.calIn.toNat % 256 = 2 →
          2026666 ≤ s.ports.calIn.toNat / 256 → s.ports.calIn.toNat / 256 ≤ 2239998 →
          t.clock.scaled.toNat = s.ports.calIn.toNat / 256 ∧ t.calStatus = 2#8)
      ∧ (¬(p = true ∧ s.ports.calIn.toNat % 256 = 1 ∧
            2026666 ≤ s.ports.calIn.toNat / 256 * 4 ∧ s.ports.calIn.toNat / 256 * 4 ≤ 2239998) →
          ¬(p = true ∧ s.ports.calIn.toNat % 256 = 2 ∧
            2026666 ≤ s.ports.calIn.toNat / 256 ∧ s.ports.calIn.toNat / 256 ≤ 2239998) →
          t.clock.scaled.toNat = 2133332 ∧ t.calStatus = 0#8)

/-- The round trip of the record (48_calibration.md R304): a RESET that presents the five CAL_OUT bytes loads the
`SCALED` they were read from, with `CAL_STATUS` 2, and CAL_OUT is the same five bytes. -/
def Obligations.CalibrationRoundTrip : Prop :=
  ∀ s r : State, s.Inv → r.ports.calIn.toNat = readField s 0x80#8 5 →
    ∃ t, exec (.reset true) r = .next t ∧ t.clock.scaled = s.clock.scaled ∧ t.calStatus = 2#8
      ∧ ∀ j : Fin 5, readReg t (BitVec.ofNat 8 (0x80 + j.val)) = readReg s (BitVec.ofNat 8 (0x80 + j.val))

/-- RESET discards every piece of state: what the block holds after it depends on the record alone (R381). -/
def Obligations.ResetForgetsThePast : Prop :=
  ∀ (p : Bool) (s s' t t' : State), s.ports.calIn = s'.ports.calIn →
    exec (.reset p) s = .next t → exec (.reset p) s' = .next t' → Machine.State.SameBlock t t' ∧ ∀ a, readReg t a = readReg t' a

/-! ### Sample register, correlator, scoreboards (40_sample_correlator.md, 41_scoreboard.md) -/

/-- TICK shifts the sample in at bit 0 and loses the oldest; byte by byte this is a rotate through carry (R120). -/
def Obligations.TickShiftsTheSampleIn : Prop :=
  (∀ (b : Bool) (s t : State), exec (.tick b) s = .next t →
      t.sr.getLsbD 0 = b ∧ ∀ i : Fin 79, t.sr.getLsbD (i.val + 1) = s.sr.getLsbD i.val)
    ∧ ∀ (b : Bool) (sr : SampleWord) (j : Fin 10), byteAt (srShift Config.block b sr) j.val = srShiftByte b sr j.val

/-- The templates bit by bit, as 80-bit values, and their popcounts (R122). -/
def Obligations.TemplateContents : Prop :=
  (∀ i : Fin 80,
      (template Config.block .Z).getLsbD i.val = decide (58 ≤ i.val ∧ i.val ≤ 69)
        ∧ (template Config.block .O).getLsbD i.val = decide ((40 ≤ i.val ∧ i.val ≤ 69) ∨ i.val ≤ 9)
        ∧ (template Config.block .M).getLsbD i.val = decide ((22 ≤ i.val ∧ i.val ≤ 69) ∨ i.val ≤ 9))
    ∧ template Config.block .Z = 0x003FFC00000000000000#80
    ∧ template Config.block .O = 0x003FFFFFFF00000003FF#80
    ∧ template Config.block .M = 0x003FFFFFFFFFFFC003FF#80
    ∧ popcount (template Config.block .Z) = 12 ∧ popcount (template Config.block .O) = 40
    ∧ popcount (template Config.block .M) = 58

/-- The correlator score is the number of matching bits, in 0..80, 80 exactly at the template and 0 exactly at its
complement; TICK stores the score of the shifted register (R124). -/
def Obligations.ScoreCountsMatchingBits : Prop :=
  (∀ (k : Board) (sr : SampleWord),
      (corrScore Config.block k sr).toNat
          = (List.range 80).countP (fun i => sr.getLsbD i == (template Config.block k).getLsbD i)
        ∧ (corrScore Config.block k sr).toNat ≤ 80
        ∧ ((corrScore Config.block k sr).toNat = 80 ↔ sr = template Config.block k)
        ∧ ((corrScore Config.block k sr).toNat = 0 ↔ sr = ~~~(template Config.block k)))
    ∧ ∀ (b : Bool) (s t : State), exec (.tick b) s = .next t → ∀ k, t.score.get k = corrScore Config.block k t.sr

/-- The byte-wise algorithm gives the same score (R125). -/
def Obligations.BytewiseScoreAgrees : Prop :=
  ∀ (k : Board) (sr : SampleWord), scoreBytewise Config.block k sr = (corrScore Config.block k sr).toNat

/-- On a clean signal, at the alignment tick, the current symbol's own template scores 70, 80 and 80 and the two others
stay below the threshold, whatever the neighbouring symbols (R129). -/
def Obligations.CleanSecondScores : Prop :=
  ∀ before ∈ checkingOrder, ∀ next ∈ checkingOrder,
    (matchingBits Config.block .Z (cleanWindow before .Z next) = 70
        ∧ matchingBits Config.block .O (cleanWindow before .Z next) = 62
        ∧ matchingBits Config.block .M (cleanWindow before .Z next) = 44)
      ∧ (matchingBits Config.block .Z (cleanWindow before .O next) = 52
        ∧ matchingBits Config.block .O (cleanWindow before .O next) = 80
        ∧ matchingBits Config.block .M (cleanWindow before .O next) = 62)
      ∧ (matchingBits Config.block .Z (cleanWindow before .M next) = 34
        ∧ matchingBits Config.block .O (cleanWindow before .M next) = 62
        ∧ matchingBits Config.block .M (cleanWindow before .M next) = 80)

/-- TICK shifts each board's new score in at slot 0 and loses the oldest (R140), and recomputes the peak: the maximum,
at the most recent slot that holds it (R141). -/
def Obligations.TickShiftsTheBoards : Prop :=
  ∀ (b : Bool) (s t : State), exec (.tick b) s = .next t →
    ∀ k : Board,
      (t.board.get k).slots[(0 : Fin 11)] = t.score.get k
        ∧ (∀ i : Fin 10, (t.board.get k).slots[i.succ] = (s.board.get k).slots[i.castSucc])
        ∧ ∃ top : Fin 11, (t.board.get k).peakI.toNat = top.val
          ∧ (t.board.get k).slots[top] = (t.board.get k).peakV
          ∧ (∀ i : Fin 11, (t.board.get k).slots[i].toNat ≤ (t.board.get k).peakV.toNat)
          ∧ ∀ i : Fin 11, i < top → (t.board.get k).slots[i].toNat < (t.board.get k).peakV.toNat

/-- Under every tie rule, the drawn one too, the cached peak is the maximum and its index names a slot that holds it
(R141: "any max-holding slot"). -/
def Obligations.EveryTieRuleNamesAMaximalSlot : Prop :=
  ∀ (tie : PeakTie) (b : Scoreboard), ∃ top : Fin 11,
    (b.peakUpdate { Config.block with peakTie := tie }).peakI.toNat = top.val
      ∧ b.slots[top] = (b.peakUpdate { Config.block with peakTie := tie }).peakV
      ∧ ∀ i : Fin 11, b.slots[i].toNat ≤ (b.peakUpdate { Config.block with peakTie := tie }).peakV.toNat

/-- A peak maintained incrementally equals the recomputed one on every board whose cache is right (R142). -/
def Obligations.IncrementalPeakAgrees : Prop :=
  ∀ (b : Scoreboard) (v : Byte), b.PeakCached →
    (b.shift Config.block v).peakV = (b.peakIncremental Config.block v).1
      ∧ (b.shift Config.block v).peakI.toNat = (b.peakIncremental Config.block v).2

/-- Peak passage (R145): a score greater than the ten before it and those after it is the peak, and stands at index `j`
after the `j`-th later shift, for `j` up to 10; so its board is aligned exactly after the fifth. -/
def Obligations.IsolatedPeakPassesTheCentreOnce : Prop :=
  ∀ (b : Scoreboard) (before after : List Byte) (v : Byte),
    before.length = 10 → after.length ≤ 10 →
    (∀ x ∈ before, x.toNat < v.toNat) → (∀ x ∈ after, x.toNat < v.toNat) →
      ((b.shiftAll Config.block (before ++ v :: after)).peakI.toNat = after.length)
        ∧ (b.shiftAll Config.block (before ++ v :: after)).peakV = v
        ∧ ((b.shiftAll Config.block (before ++ v :: after)).aligned Config.block = true ↔ after.length = 5)

/-! ### Detector (42_symbol_detector.md) -/

/-- DETECT_SEEK (R162): the first of Z, O, M whose peak is above 69 and in the centre slot. -/
def Obligations.SeekDetector : Prop :=
  ∀ bs : PerBoard Scoreboard,
    detectSeek Config.block bs =
      if 69 < bs.z.peakV.toNat ∧ bs.z.peakI.toNat = 5 then some .zero
      else if 69 < bs.o.peakV.toNat ∧ bs.o.peakI.toNat = 5 then some .one
      else if 69 < bs.m.peakV.toNat ∧ bs.m.peakI.toNat = 5 then some .marker
      else none

/-- DETECT_SYNC (R163): a symbol and its offset exactly when exactly one board's peak is above 69. -/
def Obligations.SyncDetector : Prop :=
  ∀ (bs : PerBoard Scoreboard) (sym : Symbol) (off : Int),
    detectSync Config.block bs = some (sym, off) ↔
      (sym = .zero ∧ off = 5 - bs.z.peakI.toNat
          ∧ 69 < bs.z.peakV.toNat ∧ bs.o.peakV.toNat ≤ 69 ∧ bs.m.peakV.toNat ≤ 69)
        ∨ (sym = .one ∧ off = 5 - bs.o.peakI.toNat
          ∧ bs.z.peakV.toNat ≤ 69 ∧ 69 < bs.o.peakV.toNat ∧ bs.m.peakV.toNat ≤ 69)
        ∨ (sym = .marker ∧ off = 5 - bs.m.peakI.toNat
          ∧ bs.z.peakV.toNat ≤ 69 ∧ bs.o.peakV.toNat ≤ 69 ∧ 69 < bs.m.peakV.toNat)

/-! ### Stream and frames (43_symbol_stream.md, 44_frame_decoder.md) -/

/-- The frame-alignment score is at most 60, and 60 exactly when the marker positions hold `'M'` and every other
position `'0'` or `'1'` (43_symbol_stream.md R181). -/
def Obligations.PerfectFrameAlignment : Prop :=
  ∀ st : Vector Symbol 60,
    frameAlignment Config.block st ≤ 60
      ∧ (frameAlignment Config.block st = 60 ↔
          ∀ i : Fin 60,
            if i.val = 0 ∨ i.val = 9 ∨ i.val = 19 ∨ i.val = 29 ∨ i.val = 39 ∨ i.val = 49 ∨ i.val = 59
            then st[i] = .marker else st[i] = .zero ∨ st[i] = .one)

/-- TICK pushes the symbol the acquisition machine gives it, if any, and nothing otherwise; a push rescores the stream
and raises `valid_frame` exactly at 60 (43_symbol_stream.md R180, R181). -/
def Obligations.TickPushesAndScoresTheStream : Prop :=
  ∀ (b : Bool) (s t : State), exec (.tick b) s = .next t →
    (s.pushes b = none → t.stream = s.stream ∧ t.frameScore = s.frameScore
        ∧ t.flag .validFrame = s.flag .validFrame)
      ∧ ∀ sym, s.pushes b = some sym →
          (∀ i : Fin 59, t.stream[i.castSucc] = s.stream[i.succ]) ∧ t.stream[(59 : Fin 60)] = sym
            ∧ t.frameScore.toNat = frameAlignment Config.block t.stream
            ∧ t.flag .validFrame = (s.flag .validFrame || decide (frameAlignment Config.block t.stream = 60))

/-- The decoder reads back the frame of every minute, hour, day, year and leap bit, and accepts it exactly when the day
exists; and of any stream, whatever its digits, it accepts the frame exactly when every check of the range check holds
(44_frame_decoder.md R201, R202). -/
def Obligations.FrameFieldsReadBack : Prop :=
  (∀ (m h d y : Nat) (ly : Bool), m < 60 → h < 24 → d < 400 → y < 100 →
    frameAlignment Config.block (frameStream m h d y ly) = 60
      ∧ (frameDigits (frameStream m h d y ly)).minutes = m ∧ (frameDigits (frameStream m h d y ly)).hours = h
      ∧ (frameDigits (frameStream m h d y ly)).day = d ∧ (frameDigits (frameStream m h d y ly)).year = y
      ∧ ((frameDigits (frameStream m h d y ly)).leapYear = 1 ↔ ly = true)
      ∧ ((frameDigits (frameStream m h d y ly)).inRange = true ↔ 1 ≤ d ∧ d ≤ (if ly then 366 else 365)))
    ∧ ∀ (st : Vector Symbol 60) (b : Fin 60 → Nat) (mt mu ht hu dh dt du yt yu : Nat),
        (∀ i, b i = if st[i] = .one then 1 else 0) →
        mt = 4 * b 1 + 2 * b 2 + b 3 → mu = 8 * b 5 + 4 * b 6 + 2 * b 7 + b 8 →
        ht = 2 * b 12 + b 13 → hu = 8 * b 15 + 4 * b 16 + 2 * b 17 + b 18 →
        dh = 2 * b 22 + b 23 → dt = 8 * b 25 + 4 * b 26 + 2 * b 27 + b 28 →
        du = 8 * b 30 + 4 * b 31 + 2 * b 32 + b 33 →
        yt = 8 * b 45 + 4 * b 46 + 2 * b 47 + b 48 → yu = 8 * b 50 + 4 * b 51 + 2 * b 52 + b 53 →
          ((frameDigits st).inRange = true ↔
            mu ≤ 9 ∧ hu ≤ 9 ∧ dt ≤ 9 ∧ du ≤ 9 ∧ yt ≤ 9 ∧ yu ≤ 9 ∧ 10 * mt + mu ≤ 59 ∧ 10 * ht + hu ≤ 23
              ∧ 1 ≤ 100 * dh + 10 * dt + du ∧ 100 * dh + 10 * dt + du ≤ 365 + b 55)

/-- A TICK whose push completes an accepted frame loads the minute after the frame's, 15 ticks into its second 0, with
the carries, sets HAS_FIX, clears DEC_REJ, and raises neither time flag (44_frame_decoder.md R203). The leap
flag after a year rollover is R282's (assumption log 17). -/
def Obligations.AcceptedFrameLoadsTheTime : Prop :=
  ∀ (b : Bool) (s t : State), exec (.tick b) s = .next t → s.acceptsFrame b = true →
    ∀ d, d = frameDigits (s.streamAfter b) →
      t.tod.ticks = 15#8 ∧ t.tod.seconds = 0#8 ∧ t.tod.hasFix = true ∧ t.decRej = false
        ∧ t.tod.isDst = s.tod.isDst ∧ t.tod.isLeapMinute = s.tod.isLeapMinute
        ∧ t.flag .secondChanged = s.flag .secondChanged ∧ t.flag .minuteChanged = s.flag .minuteChanged
        ∧ t.flag .validFrame = true
        ∧ t.tod.hours.toNat * 60 + t.tod.minutes.toNat = (d.hours * 60 + d.minutes + 1) % 1440
        ∧ t.tod.minutes.toNat < 60
        ∧ (d.hours * 60 + d.minutes + 1 < 1440 →
            t.tod.day.toNat = d.day ∧ t.tod.year.toNat = 2000 + d.year ∧ t.tod.isLeapYear = (d.leapYear == 1))
        ∧ (d.hours * 60 + d.minutes + 1 = 1440 → d.day < 365 + d.leapYear →
            t.tod.day.toNat = d.day + 1 ∧ t.tod.year.toNat = 2000 + d.year ∧ t.tod.isLeapYear = (d.leapYear == 1))
        ∧ (d.hours * 60 + d.minutes + 1 = 1440 → d.day = 365 + d.leapYear →
            t.tod.day.toNat = 1 ∧ t.tod.year.toNat = 2001 + d.year
              ∧ t.tod.isLeapYear = gregorianLeap (2001 + d.year))

/-- A TICK that completes a frame whose fields fail the range check sets DEC_REJ and loads nothing: the time of day only
advances by its one tick (44_frame_decoder.md R202); a TICK that completes none keeps DEC_REJ. -/
def Obligations.RejectedFrameLoadsNothing : Prop :=
  ∀ (b : Bool) (s t : State), exec (.tick b) s = .next t → s.acceptsFrame b = false →
    t.decRej = (s.decRej || s.completesFrame b) ∧ t.tod = s.tod.advance

/-! ### Acquisition (45_acquisition.md) -/

/-- SEEK_TICK and ENTER_SYNC (R221, R222): in SEEK, TICK completes; a tick without a detection changes no counter but
`TSS` and `TSP`; a detection pushes its symbol and counts, and the tenth enters SYNC with every SYNC counter fresh. No
discipline and no persistence check runs (R227, R228): `SCALED`, `tick_interval_changed` and `params_unsaved` stay. -/
def Obligations.TickInSeek : Prop :=
  ∀ (b : Bool) (s : State), s.acq.mode = .seek → s.acq.seekCount.toNat < 10 →
    ∃ t, exec (.tick b) s = .next t ∧ t.clock.scaled = s.clock.scaled ∧ t.stream = s.streamAfter b
      ∧ t.flag .paramsUnsaved = s.flag .paramsUnsaved
      ∧ t.flag .tickIntervalChanged = s.flag .tickIntervalChanged
      ∧ (s.pushes b = none → t.acq = { s.acq with tss := s.acq.tss + 1#32, tsp := s.acq.tsp + 1#32 })
      ∧ (∀ sym, s.pushes b = some sym → s.acq.seekCount.toNat < 9 →
          t.acq = { s.acq with
            seekCount := s.acq.seekCount + 1#8, tss := s.acq.tss + 1#32, tsp := s.acq.tsp + 1#32 })
      ∧ (∀ sym, s.pushes b = some sym → s.acq.seekCount.toNat = 9 →
          t.acq = ⟨.sync, 10#8, 60#8, 0#8, 0#8, 0#16, 0#32, 0#32⟩)

/-- SYNC_TICK between peeks (R223): the countdown falls by one, and the machine's other SYNC counters stay. -/
def Obligations.TickInSyncWithoutAPeek : Prop :=
  ∀ (b : Bool) (s : State), s.Inv → s.acq.mode = .sync → 1 < s.acq.peekIn.toNat →
    ∃ t, exec (.tick b) s = .next t
      ∧ t.acq.mode = .sync ∧ t.acq.peekIn.toNat = s.acq.peekIn.toNat - 1 ∧ t.acq.missed = s.acq.missed
      ∧ t.acq.lastOffset = s.acq.lastOffset ∧ t.acq.seekCount = s.acq.seekCount ∧ t.stream = s.stream

/-- PEEK with a detection (R224, R225): the symbol is pushed, the misses are forgotten, the offset is kept, and the next
peek is 60 + offset ticks away. -/
def Obligations.PeekWithADetection : Prop :=
  ∀ (b : Bool) (s : State) (sym : Symbol) (off : Int), s.Inv → s.acq.mode = .sync → s.acq.peekIn.toNat = 1 →
    detectSync Config.block (s.takeSample Config.block b).board = some (sym, off) →
    ∃ t, exec (.tick b) s = .next t
      ∧ t.acq.mode = .sync ∧ t.acq.seekCount = s.acq.seekCount ∧ t.acq.missed = 0#8
      ∧ t.acq.lastOffset.toInt = off ∧ (t.acq.peekIn.toNat : Int) = 60 + off ∧ -5 ≤ off ∧ off ≤ 5
      ∧ t.stream[(59 : Fin 60)] = sym

/-- PEEK with a miss, and ENTER_SEEK (R224, R226): `'-'` is pushed and the miss counted; the sixth in a row returns to
SEEK, with `SEEK_COUNT` zeroed and no discipline or persistence check on that TICK; the offset counters stay. -/
def Obligations.PeekWithAMiss : Prop :=
  ∀ (b : Bool) (s : State), s.Inv → s.acq.mode = .sync → s.acq.peekIn.toNat = 1 →
    detectSync Config.block (s.takeSample Config.block b).board = none →
    ∃ t, exec (.tick b) s = .next t
      ∧ t.acq.missed.toNat = s.acq.missed.toNat + 1 ∧ t.acq.peekIn = 60#8
      ∧ t.acq.lastOffset = s.acq.lastOffset ∧ t.stream[(59 : Fin 60)] = .missing
      ∧ (s.acq.missed.toNat < 5 → t.acq.mode = .sync ∧ t.acq.seekCount = s.acq.seekCount)
      ∧ (s.acq.missed.toNat = 5 →
          t.acq.mode = .seek ∧ t.acq.seekCount = 0#8 ∧ t.acq.acc = s.acq.acc ∧ t.acq.tss = s.acq.tss + 1#32
            ∧ t.acq.tsp = s.acq.tsp + 1#32 ∧ t.clock.scaled = s.clock.scaled
            ∧ t.flag .paramsUnsaved = s.flag .paramsUnsaved
            ∧ t.flag .tickIntervalChanged = s.flag .tickIntervalChanged)

/-- DISCIPLINE_CHECK and H_ADJUST (R223, R227, 46_clock_discipline.md R252, R253): in a TICK that stays in SYNC (every TICK
of SYNC but the peek that misses for the sixth time), with `A` the accumulated offset after any peek and `T` the new
`TSS`, the adjust fires exactly when |A| > 15 and T > 1000: `SCALED` becomes the clamped floor of the average of itself
and `SCALED·T / (T − A)`, and `ACC` and `TSS` are zeroed. -/
def Obligations.DisciplineInSync : Prop :=
  ∀ (b : Bool) (s : State) (A : Int) (T : Nat), s.Inv → s.acq.mode = .sync →
    T = (s.acq.tss.toNat + 1) % 2 ^ 32 →
    (s.acq.peekIn.toNat = 1 →
      s.acq.missed.toNat < 5 ∨ detectSync Config.block (s.takeSample Config.block b).board ≠ none) →
    A = s.acq.acc.toInt
      + (if s.acq.peekIn.toNat = 1 then
          match detectSync Config.block (s.takeSample Config.block b).board with
          | some (_, off) => off
          | none => 0
        else 0) →
    ∃ t, exec (.tick b) s = .next t
      ∧ (15 < A.natAbs → 1000 < T →
          0 < (T : Int) - A
            ∧ t.clock.scaled.toNat
              = min (max ((s.clock.scaled.toNat * T / ((T : Int) - A).toNat + s.clock.scaled.toNat) / 2) 2026666)
                  2239998
            ∧ t.acq.acc = 0#16 ∧ t.acq.tss = 0#32
            ∧ t.flag .tickIntervalChanged
              = (s.flag .tickIntervalChanged || decide (t.clock.scaled ≠ s.clock.scaled)))
      ∧ (¬(15 < A.natAbs ∧ 1000 < T) →
          t.clock.scaled = s.clock.scaled ∧ t.acq.acc.toInt = A ∧ t.acq.tss.toNat = T
            ∧ t.flag .tickIntervalChanged = s.flag .tickIntervalChanged)

/-- PERSIST_CHECK (R223, R228): in a TICK that stays in SYNC (every TICK of SYNC but the peek that misses for the sixth
time), the 500000th tick of `TSP` raises `params_unsaved` and zeroes
`TSP`; before it, `TSP` counts. -/
def Obligations.PersistenceRequestInSync : Prop :=
  ∀ (b : Bool) (s : State), s.Inv → s.acq.mode = .sync →
    (s.acq.peekIn.toNat = 1 →
      s.acq.missed.toNat < 5 ∨ detectSync Config.block (s.takeSample Config.block b).board ≠ none) →
    ∃ t, exec (.tick b) s = .next t
      ∧ (s.acq.tsp.toNat = 499999 → t.acq.tsp = 0#32 ∧ t.flag .paramsUnsaved = true)
      ∧ (s.acq.tsp.toNat < 499999 →
          t.acq.tsp.toNat = s.acq.tsp.toNat + 1 ∧ t.flag .paramsUnsaved = s.flag .paramsUnsaved)

/-- Only the sixth consecutive miss and RESET leave SYNC, and only the tenth detection of a SEEK episode enters it
(R221, R224, R226). -/
def Obligations.ModeChangesOnlyAtItsThresholds : Prop :=
  ∀ s t : State, s.Inv → step s = .next t →
    (s.acq.mode = .sync → t.acq.mode = .seek →
        ∃ p rest, s.schedule = p :: rest
          ∧ ((∃ r, decode p.word = .ok (.reset r))
            ∨ ∃ b, decode p.word = .ok (.tick b) ∧ s.acq.peekIn.toNat = 1 ∧ s.acq.missed.toNat = 5
                ∧ s.pushes b = some .missing))
      ∧ (s.acq.mode = .seek → t.acq.mode = .sync →
        ∃ p rest b, s.schedule = p :: rest ∧ decode p.word = .ok (.tick b) ∧ s.acq.seekCount.toNat = 9
          ∧ (s.pushes b).isSome = true)

/-! ### Clock discipline and cadence (46_clock_discipline.md) -/

/-- MULDIV is the exact floor, and the binary algorithm that the spec writes out gives its quotient and the remainder
for every `a`, `b` and `c > 0` (R251). -/
def Obligations.MuldivIsTheExactFloor : Prop :=
  ∀ width a b c : Nat, 0 < c → b < 2 ^ width →
    muldiv a b c * c ≤ a * b ∧ a * b < (muldiv a b c + 1) * c
      ∧ muldivBinary width a b c = (muldiv a b c, a * b % c)

/-- The sign convention and the bounds (R253, R257): an adjust with `A > 0` never lowers an in-range `SCALED`, one with
`A < 0` never raises it, and the result is in range. -/
def Obligations.AdjustFollowsTheSignOfTheOffset : Prop :=
  ∀ (scaled T : Nat) (A : Int), 2026666 ≤ scaled → scaled ≤ 2239998 → 0 < (T : Int) - A →
    2026666 ≤ adjustedScaled Config.block scaled T ((T : Int) - A).toNat
      ∧ adjustedScaled Config.block scaled T ((T : Int) - A).toNat ≤ 2239998
      ∧ (0 < A → scaled ≤ adjustedScaled Config.block scaled T ((T : Int) - A).toNat)
      ∧ (A < 0 → adjustedScaled Config.block scaled T ((T : Int) - A).toNat ≤ scaled)
      ∧ (A = 0 → adjustedScaled Config.block scaled T ((T : Int) - A).toNat = scaled)

/-- CADENCE (R255): every TICK advances the accumulator by `FRAC` modulo 64, and the next period is one raw cycle longer
exactly when the accumulator wrapped, with `WHOLE` and `FRAC` as any adjust of this TICK left them; the outputs carry
the new period. -/
def Obligations.TickChoosesTheNextPeriod : Prop :=
  ∀ (b : Bool) (s t : State), s.Inv → exec (.tick b) s = .next t →
    t.clock.fracAcc.toNat = (s.clock.fracAcc.toNat + t.clock.scaled.toNat % 64) % 64
      ∧ t.clock.period.toNat
        = t.clock.scaled.toNat / 64 + (if t.clock.fracAcc.toNat < t.clock.scaled.toNat % 64 then 1 else 0)
      ∧ t.clock.compare.toNat + 1 = t.clock.period.toNat
      ∧ t.ports.periodOut = t.clock.period ∧ t.ports.compareOut = t.clock.compare

/-- The window law (R256): from any accumulator value, 64 consecutive cadence steps give exactly `FRAC` long periods,
their lengths sum to `SCALED`, and two long periods are at least `64 div FRAC` steps apart. -/
def Obligations.CadenceWindowLaw : Prop :=
  ∀ k : Clock, k.fracAcc.toNat < 64 → 2026666 ≤ k.scaled.toNat → k.scaled.toNat ≤ 2239998 →
    (List.range 64).countP (fun n => (k.cadences n).isLong Config.block) = k.scaled.toNat % 64
      ∧ ((List.range 64).map fun n => (k.cadences (n + 1)).period.toNat).sum = k.scaled.toNat
      ∧ ∀ i j : Nat, i < j → (k.cadences i).isLong Config.block = true → (k.cadences j).isLong Config.block = true →
          64 / (k.scaled.toNat % 64) ≤ j - i

/-! ### Time of day (47_time_of_day.md) -/

/-- A TICK that accepts no frame advances a normalised time of day by exactly one tick, with the carries into the day
and the year, and raises `second_changed` and `minute_changed` exactly at the rollovers (R280, R281). That `YEAR` wraps
past 65535 is the model's choice (assumption log 18), and the leap flag after a rollover is R282's (log 17). -/
def Obligations.TickAdvancesTheTimeOfDay : Prop :=
  ∀ (b : Bool) (s t : State), s.tod.Normal → exec (.tick b) s = .next t → s.acceptsFrame b = false →
    t.tod.Normal ∧ t.tod.hasFix = s.tod.hasFix
      ∧ t.tod.tickOfDay = (s.tod.tickOfDay + 1) % 5184000
      ∧ (s.tod.tickOfDay + 1 < 5184000 →
          t.tod.day = s.tod.day ∧ t.tod.year = s.tod.year ∧ t.tod.isLeapYear = s.tod.isLeapYear)
      ∧ (s.tod.tickOfDay + 1 = 5184000 → s.tod.day.toNat < s.tod.lastDay →
          t.tod.day.toNat = s.tod.day.toNat + 1 ∧ t.tod.year = s.tod.year
            ∧ t.tod.isLeapYear = s.tod.isLeapYear)
      ∧ (s.tod.tickOfDay + 1 = 5184000 → s.tod.day.toNat = s.tod.lastDay →
          t.tod.day.toNat = 1 ∧ t.tod.year = s.tod.year + 1#16
            ∧ t.tod.isLeapYear = gregorianLeap t.tod.year.toNat)
      ∧ t.flag .secondChanged = (s.flag .secondChanged || decide (s.tod.tickOfDay % 60 = 59))
      ∧ t.flag .minuteChanged = (s.flag .minuteChanged || decide (s.tod.tickOfDay % 3600 = 3599))

/-- GREGORIAN_LEAP (R282, marked there as general knowledge: assumption log 17), which agrees with `y mod 4 = 0` on the
years a frame can load and first differs at 2100. -/
def Obligations.GregorianLeapYears : Prop :=
  (∀ y : Nat, gregorianLeap y = true ↔ (y % 4 = 0 ∧ y % 100 ≠ 0) ∨ y % 400 = 0)
    ∧ (∀ y : Nat, 2000 ≤ y → y < 2100 → (gregorianLeap y = true ↔ y % 4 = 0))
    ∧ gregorianLeap 2100 = false

/-- HAS_FIX changes only when a TICK accepts a frame, which sets it, or RESET clears it; a sync loss keeps it
(45_acquisition.md R226). -/
def Obligations.FixChangesOnlyByAFrameOrReset : Prop :=
  ∀ s t : State, step s = .next t → t.tod.hasFix ≠ s.tod.hasFix →
    ∃ p rest, s.schedule = p :: rest
      ∧ ((∃ r, decode p.word = .ok (.reset r) ∧ t.tod.hasFix = false)
        ∨ ∃ b, decode p.word = .ok (.tick b) ∧ s.acceptsFrame b = true ∧ t.tod.hasFix = true)

/-! ### TICK as a whole (49_tick_and_port.md) -/

/-- What TICK never changes: the error registers, CAL_STATUS, IS_DST, `rdata`, the input ports but the strobe, and what
is still scheduled; and it always sets `needs_ui_refresh` and never clears a flag (R320, R323). -/
def Obligations.TickFrame : Prop :=
  ∀ (b : Bool) (s t : State), exec (.tick b) s = .next t →
    t.error = s.error ∧ t.calStatus = s.calStatus ∧ t.tod.isDst = s.tod.isDst ∧ t.schedule = s.schedule
      ∧ t.ports = { s.ports with
          periodOut := t.clock.period
          compareOut := t.clock.compare
          cmdValid := t.ports.cmdValid
          cmdDone := true }
      ∧ t.flag .needsUiRefresh = true ∧ (∀ f, s.flag f = true → t.flag f = true)

/-- From every state that meets the invariant TICK completes: the adjust never meets `apparent_ticks <= 0` (R258). -/
def Obligations.TickCompletes : Prop :=
  ∀ (b : Bool) (s : State), s.Inv → ∃ t, exec (.tick b) s = .next t ∧ t.ports.cmdDone = true

/-- The consumer cannot influence the tick chain: two states that differ only in what RD, CLRF and illegal words can
change (flags, error registers, ports, schedule) are carried by TICK to states that still agree on everything else. -/
def Obligations.ConsumerCannotInfluenceTicks : Prop :=
  ∀ (b : Bool) (s s' t : State),
    Machine.State.SameBlock { s with flags := s'.flags, error := s'.error } s' → exec (.tick b) s = .next t →
      ∃ t', exec (.tick b) s' = .next t' ∧ Machine.State.SameBlock { t with flags := t'.flags, error := t'.error } t'

/-! ### Configurations (00_scope.md R7) -/

/-- The configured machine: with the "value" column it is `step`; with `DENOM` = 64 and sizes the state has room for, any
value of any other parameter gives a machine (R7); `DENOM` other than 64 is refused (48_calibration.md R302), and so are
sizes the state has no room for, which is the model's choice (assumption log 8). -/
def Obligations.ConfiguredMachine : Prop :=
  (∀ s : State, stepWith Config.block s = step s)
    ∧ State.afterReset Config.block false 0#40 = Machine.State.reset
    ∧ (∀ (c : Params) (p : Bool) (r : CalRecord),
        c.denom = 64 → c.templateBits ≤ 80 → c.scoreboardLen ≤ 11 → c.streamLen ≤ 60 →
          configure c p r = .ok { Sys2Proof.core with step := stepWith c, reset := State.afterReset c p r })
    ∧ ∀ (c : Params) (p : Bool) (r : CalRecord),
        c.denom ≠ 64 ∨ 80 < c.templateBits ∨ 11 < c.scoreboardLen ∨ 60 < c.streamLen →
          configure c p r = .error .configurationUndefined

/-! ### Invariants of the machine -/

/-- The state right after RESET meets the invariant. -/
def Obligations.ResetMeetsTheInvariant : Prop := Machine.State.reset.Inv

/-- Every step keeps the invariant, whatever command is presented, from whatever state meets it (10_state.md R25, R27,
R30, R32, R33; 46_clock_discipline.md R258; 47_time_of_day.md R283). -/
def Obligations.EveryStepKeepsTheInvariant : Prop :=
  ∀ s t : State, s.Inv → step s = .next t → t.Inv

/-- A machine whose environment keeps the handshake never stops: from every state that meets the invariant, every number
of steps answers a next state that meets it. -/
def Obligations.RunsNeverStop : Prop :=
  ∀ (n : Nat) (s : State), s.Inv → s.HandshakeKept →
    ∃ t, Host.Core.run Sys2Proof.core n s = .next t ∧ State.Inv t ∧ State.HandshakeKept t
end

