-- ==== Sys2Proof/Laws/State.lean ====
section
/-! SUPPORT. One lemma per field of State and named update, true by rfl (spec/10_state.md R20): no later proof unfolds a
record update. -/

namespace Sys2Proof.Machine

/-! `State.raiseFlag` -/

@[simp] theorem State.raiseFlag_sr (f : Flag) (s : State) :
    (s.raiseFlag f).sr = s.sr := rfl

@[simp] theorem State.raiseFlag_score (f : Flag) (s : State) :
    (s.raiseFlag f).score = s.score := rfl

@[simp] theorem State.raiseFlag_board (f : Flag) (s : State) :
    (s.raiseFlag f).board = s.board := rfl

@[simp] theorem State.raiseFlag_stream (f : Flag) (s : State) :
    (s.raiseFlag f).stream = s.stream := rfl

@[simp] theorem State.raiseFlag_frameScore (f : Flag) (s : State) :
    (s.raiseFlag f).frameScore = s.frameScore := rfl

@[simp] theorem State.raiseFlag_acq (f : Flag) (s : State) :
    (s.raiseFlag f).acq = s.acq := rfl

@[simp] theorem State.raiseFlag_clock (f : Flag) (s : State) :
    (s.raiseFlag f).clock = s.clock := rfl

@[simp] theorem State.raiseFlag_tod (f : Flag) (s : State) :
    (s.raiseFlag f).tod = s.tod := rfl

@[simp] theorem State.raiseFlag_decRej (f : Flag) (s : State) :
    (s.raiseFlag f).decRej = s.decRej := rfl

@[simp] theorem State.raiseFlag_error (f : Flag) (s : State) :
    (s.raiseFlag f).error = s.error := rfl

@[simp] theorem State.raiseFlag_flags (f : Flag) (s : State) :
    (s.raiseFlag f).flags = s.flags ||| f.mask := rfl

@[simp] theorem State.raiseFlag_calStatus (f : Flag) (s : State) :
    (s.raiseFlag f).calStatus = s.calStatus := rfl

@[simp] theorem State.raiseFlag_ports (f : Flag) (s : State) :
    (s.raiseFlag f).ports = s.ports := rfl

@[simp] theorem State.raiseFlag_schedule (f : Flag) (s : State) :
    (s.raiseFlag f).schedule = s.schedule := rfl

/-! `State.raiseFlagIf` -/

@[simp] theorem State.raiseFlagIf_sr (b : Bool) (f : Flag) (s : State) :
    (s.raiseFlagIf b f).sr = s.sr := by cases b <;> rfl

@[simp] theorem State.raiseFlagIf_score (b : Bool) (f : Flag) (s : State) :
    (s.raiseFlagIf b f).score = s.score := by cases b <;> rfl

@[simp] theorem State.raiseFlagIf_board (b : Bool) (f : Flag) (s : State) :
    (s.raiseFlagIf b f).board = s.board := by cases b <;> rfl

@[simp] theorem State.raiseFlagIf_stream (b : Bool) (f : Flag) (s : State) :
    (s.raiseFlagIf b f).stream = s.stream := by cases b <;> rfl

@[simp] theorem State.raiseFlagIf_frameScore (b : Bool) (f : Flag) (s : State) :
    (s.raiseFlagIf b f).frameScore = s.frameScore := by cases b <;> rfl

@[simp] theorem State.raiseFlagIf_acq (b : Bool) (f : Flag) (s : State) :
    (s.raiseFlagIf b f).acq = s.acq := by cases b <;> rfl

@[simp] theorem State.raiseFlagIf_clock (b : Bool) (f : Flag) (s : State) :
    (s.raiseFlagIf b f).clock = s.clock := by cases b <;> rfl

@[simp] theorem State.raiseFlagIf_tod (b : Bool) (f : Flag) (s : State) :
    (s.raiseFlagIf b f).tod = s.tod := by cases b <;> rfl

@[simp] theorem State.raiseFlagIf_decRej (b : Bool) (f : Flag) (s : State) :
    (s.raiseFlagIf b f).decRej = s.decRej := by cases b <;> rfl

@[simp] theorem State.raiseFlagIf_error (b : Bool) (f : Flag) (s : State) :
    (s.raiseFlagIf b f).error = s.error := by cases b <;> rfl

@[simp] theorem State.raiseFlagIf_flags (b : Bool) (f : Flag) (s : State) :
    (s.raiseFlagIf b f).flags = if b then s.flags ||| f.mask else s.flags := by cases b <;> rfl

@[simp] theorem State.raiseFlagIf_calStatus (b : Bool) (f : Flag) (s : State) :
    (s.raiseFlagIf b f).calStatus = s.calStatus := by cases b <;> rfl

@[simp] theorem State.raiseFlagIf_ports (b : Bool) (f : Flag) (s : State) :
    (s.raiseFlagIf b f).ports = s.ports := by cases b <;> rfl

@[simp] theorem State.raiseFlagIf_schedule (b : Bool) (f : Flag) (s : State) :
    (s.raiseFlagIf b f).schedule = s.schedule := by cases b <;> rfl

/-! `State.clearFlags` -/

@[simp] theorem State.clearFlags_sr (m : BitVec 6) (s : State) :
    (s.clearFlags m).sr = s.sr := rfl

@[simp] theorem State.clearFlags_score (m : BitVec 6) (s : State) :
    (s.clearFlags m).score = s.score := rfl

@[simp] theorem State.clearFlags_board (m : BitVec 6) (s : State) :
    (s.clearFlags m).board = s.board := rfl

@[simp] theorem State.clearFlags_stream (m : BitVec 6) (s : State) :
    (s.clearFlags m).stream = s.stream := rfl

@[simp] theorem State.clearFlags_frameScore (m : BitVec 6) (s : State) :
    (s.clearFlags m).frameScore = s.frameScore := rfl

@[simp] theorem State.clearFlags_acq (m : BitVec 6) (s : State) :
    (s.clearFlags m).acq = s.acq := rfl

@[simp] theorem State.clearFlags_clock (m : BitVec 6) (s : State) :
    (s.clearFlags m).clock = s.clock := rfl

@[simp] theorem State.clearFlags_tod (m : BitVec 6) (s : State) :
    (s.clearFlags m).tod = s.tod := rfl

@[simp] theorem State.clearFlags_decRej (m : BitVec 6) (s : State) :
    (s.clearFlags m).decRej = s.decRej := rfl

@[simp] theorem State.clearFlags_error (m : BitVec 6) (s : State) :
    (s.clearFlags m).error = s.error := rfl

@[simp] theorem State.clearFlags_flags (m : BitVec 6) (s : State) :
    (s.clearFlags m).flags = s.flags &&& ~~~m := rfl

@[simp] theorem State.clearFlags_calStatus (m : BitVec 6) (s : State) :
    (s.clearFlags m).calStatus = s.calStatus := rfl

@[simp] theorem State.clearFlags_ports (m : BitVec 6) (s : State) :
    (s.clearFlags m).ports = s.ports := rfl

@[simp] theorem State.clearFlags_schedule (m : BitVec 6) (s : State) :
    (s.clearFlags m).schedule = s.schedule := rfl

/-! `State.emitPeriod` -/

@[simp] theorem State.emitPeriod_sr (s : State) :
    (s.emitPeriod).sr = s.sr := rfl

@[simp] theorem State.emitPeriod_score (s : State) :
    (s.emitPeriod).score = s.score := rfl

@[simp] theorem State.emitPeriod_board (s : State) :
    (s.emitPeriod).board = s.board := rfl

@[simp] theorem State.emitPeriod_stream (s : State) :
    (s.emitPeriod).stream = s.stream := rfl

@[simp] theorem State.emitPeriod_frameScore (s : State) :
    (s.emitPeriod).frameScore = s.frameScore := rfl

@[simp] theorem State.emitPeriod_acq (s : State) :
    (s.emitPeriod).acq = s.acq := rfl

@[simp] theorem State.emitPeriod_clock (s : State) :
    (s.emitPeriod).clock = s.clock := rfl

@[simp] theorem State.emitPeriod_tod (s : State) :
    (s.emitPeriod).tod = s.tod := rfl

@[simp] theorem State.emitPeriod_decRej (s : State) :
    (s.emitPeriod).decRej = s.decRej := rfl

@[simp] theorem State.emitPeriod_error (s : State) :
    (s.emitPeriod).error = s.error := rfl

@[simp] theorem State.emitPeriod_flags (s : State) :
    (s.emitPeriod).flags = s.flags := rfl

@[simp] theorem State.emitPeriod_calStatus (s : State) :
    (s.emitPeriod).calStatus = s.calStatus := rfl

@[simp] theorem State.emitPeriod_ports (s : State) :
    (s.emitPeriod).ports = { s.ports with periodOut := s.clock.period, compareOut := s.clock.compare } := rfl

@[simp] theorem State.emitPeriod_schedule (s : State) :
    (s.emitPeriod).schedule = s.schedule := rfl

/-! `State.emitRdata` -/

@[simp] theorem State.emitRdata_sr (v : Byte) (s : State) :
    (s.emitRdata v).sr = s.sr := rfl

@[simp] theorem State.emitRdata_score (v : Byte) (s : State) :
    (s.emitRdata v).score = s.score := rfl

@[simp] theorem State.emitRdata_board (v : Byte) (s : State) :
    (s.emitRdata v).board = s.board := rfl

@[simp] theorem State.emitRdata_stream (v : Byte) (s : State) :
    (s.emitRdata v).stream = s.stream := rfl

@[simp] theorem State.emitRdata_frameScore (v : Byte) (s : State) :
    (s.emitRdata v).frameScore = s.frameScore := rfl

@[simp] theorem State.emitRdata_acq (v : Byte) (s : State) :
    (s.emitRdata v).acq = s.acq := rfl

@[simp] theorem State.emitRdata_clock (v : Byte) (s : State) :
    (s.emitRdata v).clock = s.clock := rfl

@[simp] theorem State.emitRdata_tod (v : Byte) (s : State) :
    (s.emitRdata v).tod = s.tod := rfl

@[simp] theorem State.emitRdata_decRej (v : Byte) (s : State) :
    (s.emitRdata v).decRej = s.decRej := rfl

@[simp] theorem State.emitRdata_error (v : Byte) (s : State) :
    (s.emitRdata v).error = s.error := rfl

@[simp] theorem State.emitRdata_flags (v : Byte) (s : State) :
    (s.emitRdata v).flags = s.flags := rfl

@[simp] theorem State.emitRdata_calStatus (v : Byte) (s : State) :
    (s.emitRdata v).calStatus = s.calStatus := rfl

@[simp] theorem State.emitRdata_ports (v : Byte) (s : State) :
    (s.emitRdata v).ports = { s.ports with rdata := v } := rfl

@[simp] theorem State.emitRdata_schedule (v : Byte) (s : State) :
    (s.emitRdata v).schedule = s.schedule := rfl

/-! `State.complete` -/

@[simp] theorem State.complete_sr (s : State) :
    (s.complete).sr = s.sr := rfl

@[simp] theorem State.complete_score (s : State) :
    (s.complete).score = s.score := rfl

@[simp] theorem State.complete_board (s : State) :
    (s.complete).board = s.board := rfl

@[simp] theorem State.complete_stream (s : State) :
    (s.complete).stream = s.stream := rfl

@[simp] theorem State.complete_frameScore (s : State) :
    (s.complete).frameScore = s.frameScore := rfl

@[simp] theorem State.complete_acq (s : State) :
    (s.complete).acq = s.acq := rfl

@[simp] theorem State.complete_clock (s : State) :
    (s.complete).clock = s.clock := rfl

@[simp] theorem State.complete_tod (s : State) :
    (s.complete).tod = s.tod := rfl

@[simp] theorem State.complete_decRej (s : State) :
    (s.complete).decRej = s.decRej := rfl

@[simp] theorem State.complete_error (s : State) :
    (s.complete).error = s.error := rfl

@[simp] theorem State.complete_flags (s : State) :
    (s.complete).flags = s.flags := rfl

@[simp] theorem State.complete_calStatus (s : State) :
    (s.complete).calStatus = s.calStatus := rfl

@[simp] theorem State.complete_ports (s : State) :
    (s.complete).ports = { s.ports with cmdValid := false, cmdDone := true } := rfl

@[simp] theorem State.complete_schedule (s : State) :
    (s.complete).schedule = s.schedule := rfl

/-! `State.accept` -/

@[simp] theorem State.accept_sr (p : Presentation) (rest : List Presentation) (s : State) :
    (s.accept p rest).sr = s.sr := rfl

@[simp] theorem State.accept_score (p : Presentation) (rest : List Presentation) (s : State) :
    (s.accept p rest).score = s.score := rfl

@[simp] theorem State.accept_board (p : Presentation) (rest : List Presentation) (s : State) :
    (s.accept p rest).board = s.board := rfl

@[simp] theorem State.accept_stream (p : Presentation) (rest : List Presentation) (s : State) :
    (s.accept p rest).stream = s.stream := rfl

@[simp] theorem State.accept_frameScore (p : Presentation) (rest : List Presentation) (s : State) :
    (s.accept p rest).frameScore = s.frameScore := rfl

@[simp] theorem State.accept_acq (p : Presentation) (rest : List Presentation) (s : State) :
    (s.accept p rest).acq = s.acq := rfl

@[simp] theorem State.accept_clock (p : Presentation) (rest : List Presentation) (s : State) :
    (s.accept p rest).clock = s.clock := rfl

@[simp] theorem State.accept_tod (p : Presentation) (rest : List Presentation) (s : State) :
    (s.accept p rest).tod = s.tod := rfl

@[simp] theorem State.accept_decRej (p : Presentation) (rest : List Presentation) (s : State) :
    (s.accept p rest).decRej = s.decRej := rfl

@[simp] theorem State.accept_error (p : Presentation) (rest : List Presentation) (s : State) :
    (s.accept p rest).error = s.error := rfl

@[simp] theorem State.accept_flags (p : Presentation) (rest : List Presentation) (s : State) :
    (s.accept p rest).flags = s.flags := rfl

@[simp] theorem State.accept_calStatus (p : Presentation) (rest : List Presentation) (s : State) :
    (s.accept p rest).calStatus = s.calStatus := rfl

@[simp] theorem State.accept_ports (p : Presentation) (rest : List Presentation) (s : State) :
    (s.accept p rest).ports = { s.ports with cmd := p.word, cmdValid := true, calIn := p.calIn, cmdDone := false } := rfl

@[simp] theorem State.accept_schedule (p : Presentation) (rest : List Presentation) (s : State) :
    (s.accept p rest).schedule = rest := rfl

/-! `State.idle` -/

@[simp] theorem State.idle_sr (s : State) :
    (s.idle).sr = s.sr := rfl

@[simp] theorem State.idle_score (s : State) :
    (s.idle).score = s.score := rfl

@[simp] theorem State.idle_board (s : State) :
    (s.idle).board = s.board := rfl

@[simp] theorem State.idle_stream (s : State) :
    (s.idle).stream = s.stream := rfl

@[simp] theorem State.idle_frameScore (s : State) :
    (s.idle).frameScore = s.frameScore := rfl

@[simp] theorem State.idle_acq (s : State) :
    (s.idle).acq = s.acq := rfl

@[simp] theorem State.idle_clock (s : State) :
    (s.idle).clock = s.clock := rfl

@[simp] theorem State.idle_tod (s : State) :
    (s.idle).tod = s.tod := rfl

@[simp] theorem State.idle_decRej (s : State) :
    (s.idle).decRej = s.decRej := rfl

@[simp] theorem State.idle_error (s : State) :
    (s.idle).error = s.error := rfl

@[simp] theorem State.idle_flags (s : State) :
    (s.idle).flags = s.flags := rfl

@[simp] theorem State.idle_calStatus (s : State) :
    (s.idle).calStatus = s.calStatus := rfl

@[simp] theorem State.idle_ports (s : State) :
    (s.idle).ports = { s.ports with cmdValid := false, cmdDone := false } := rfl

@[simp] theorem State.idle_schedule (s : State) :
    (s.idle).schedule = s.schedule := rfl

/-! `State.raiseIllegal` -/

@[simp] theorem State.raiseIllegal_sr (k : IllegalCause) (w : CommandWord) (s : State) :
    (s.raiseIllegal k w).sr = s.sr := rfl

@[simp] theorem State.raiseIllegal_score (k : IllegalCause) (w : CommandWord) (s : State) :
    (s.raiseIllegal k w).score = s.score := rfl

@[simp] theorem State.raiseIllegal_board (k : IllegalCause) (w : CommandWord) (s : State) :
    (s.raiseIllegal k w).board = s.board := rfl

@[simp] theorem State.raiseIllegal_stream (k : IllegalCause) (w : CommandWord) (s : State) :
    (s.raiseIllegal k w).stream = s.stream := rfl

@[simp] theorem State.raiseIllegal_frameScore (k : IllegalCause) (w : CommandWord) (s : State) :
    (s.raiseIllegal k w).frameScore = s.frameScore := rfl

@[simp] theorem State.raiseIllegal_acq (k : IllegalCause) (w : CommandWord) (s : State) :
    (s.raiseIllegal k w).acq = s.acq := rfl

@[simp] theorem State.raiseIllegal_clock (k : IllegalCause) (w : CommandWord) (s : State) :
    (s.raiseIllegal k w).clock = s.clock := rfl

@[simp] theorem State.raiseIllegal_tod (k : IllegalCause) (w : CommandWord) (s : State) :
    (s.raiseIllegal k w).tod = s.tod := rfl

@[simp] theorem State.raiseIllegal_decRej (k : IllegalCause) (w : CommandWord) (s : State) :
    (s.raiseIllegal k w).decRej = s.decRej := rfl

@[simp] theorem State.raiseIllegal_error (k : IllegalCause) (w : CommandWord) (s : State) :
    (s.raiseIllegal k w).error = s.error.record k w := rfl

@[simp] theorem State.raiseIllegal_flags (k : IllegalCause) (w : CommandWord) (s : State) :
    (s.raiseIllegal k w).flags = s.flags := rfl

@[simp] theorem State.raiseIllegal_calStatus (k : IllegalCause) (w : CommandWord) (s : State) :
    (s.raiseIllegal k w).calStatus = s.calStatus := rfl

@[simp] theorem State.raiseIllegal_ports (k : IllegalCause) (w : CommandWord) (s : State) :
    (s.raiseIllegal k w).ports = { s.ports with cmdValid := false, cmdDone := true } := rfl

@[simp] theorem State.raiseIllegal_schedule (k : IllegalCause) (w : CommandWord) (s : State) :
    (s.raiseIllegal k w).schedule = s.schedule := rfl

/-! `State.presentNext` -/

@[simp] theorem State.presentNext_sr (w : CommandWord) (s : State) :
    (s.presentNext w).sr = s.sr := rfl

@[simp] theorem State.presentNext_score (w : CommandWord) (s : State) :
    (s.presentNext w).score = s.score := rfl

@[simp] theorem State.presentNext_board (w : CommandWord) (s : State) :
    (s.presentNext w).board = s.board := rfl

@[simp] theorem State.presentNext_stream (w : CommandWord) (s : State) :
    (s.presentNext w).stream = s.stream := rfl

@[simp] theorem State.presentNext_frameScore (w : CommandWord) (s : State) :
    (s.presentNext w).frameScore = s.frameScore := rfl

@[simp] theorem State.presentNext_acq (w : CommandWord) (s : State) :
    (s.presentNext w).acq = s.acq := rfl

@[simp] theorem State.presentNext_clock (w : CommandWord) (s : State) :
    (s.presentNext w).clock = s.clock := rfl

@[simp] theorem State.presentNext_tod (w : CommandWord) (s : State) :
    (s.presentNext w).tod = s.tod := rfl

@[simp] theorem State.presentNext_decRej (w : CommandWord) (s : State) :
    (s.presentNext w).decRej = s.decRej := rfl

@[simp] theorem State.presentNext_error (w : CommandWord) (s : State) :
    (s.presentNext w).error = s.error := rfl

@[simp] theorem State.presentNext_flags (w : CommandWord) (s : State) :
    (s.presentNext w).flags = s.flags := rfl

@[simp] theorem State.presentNext_calStatus (w : CommandWord) (s : State) :
    (s.presentNext w).calStatus = s.calStatus := rfl

@[simp] theorem State.presentNext_ports (w : CommandWord) (s : State) :
    (s.presentNext w).ports = s.ports := rfl

@[simp] theorem State.presentNext_schedule (w : CommandWord) (s : State) :
    (s.presentNext w).schedule = ⟨w, s.ports.calIn, customaryAgent w, false⟩ :: s.schedule := rfl

/-! `State.srShift` -/

@[simp] theorem State.srShift_sr (c : Params) (b : Bool) (s : State) :
    (s.srShift c b).sr = Machine.srShift c b s.sr := rfl

@[simp] theorem State.srShift_score (c : Params) (b : Bool) (s : State) :
    (s.srShift c b).score = s.score := rfl

@[simp] theorem State.srShift_board (c : Params) (b : Bool) (s : State) :
    (s.srShift c b).board = s.board := rfl

@[simp] theorem State.srShift_stream (c : Params) (b : Bool) (s : State) :
    (s.srShift c b).stream = s.stream := rfl

@[simp] theorem State.srShift_frameScore (c : Params) (b : Bool) (s : State) :
    (s.srShift c b).frameScore = s.frameScore := rfl

@[simp] theorem State.srShift_acq (c : Params) (b : Bool) (s : State) :
    (s.srShift c b).acq = s.acq := rfl

@[simp] theorem State.srShift_clock (c : Params) (b : Bool) (s : State) :
    (s.srShift c b).clock = s.clock := rfl

@[simp] theorem State.srShift_tod (c : Params) (b : Bool) (s : State) :
    (s.srShift c b).tod = s.tod := rfl

@[simp] theorem State.srShift_decRej (c : Params) (b : Bool) (s : State) :
    (s.srShift c b).decRej = s.decRej := rfl

@[simp] theorem State.srShift_error (c : Params) (b : Bool) (s : State) :
    (s.srShift c b).error = s.error := rfl

@[simp] theorem State.srShift_flags (c : Params) (b : Bool) (s : State) :
    (s.srShift c b).flags = s.flags := rfl

@[simp] theorem State.srShift_calStatus (c : Params) (b : Bool) (s : State) :
    (s.srShift c b).calStatus = s.calStatus := rfl

@[simp] theorem State.srShift_ports (c : Params) (b : Bool) (s : State) :
    (s.srShift c b).ports = s.ports := rfl

@[simp] theorem State.srShift_schedule (c : Params) (b : Bool) (s : State) :
    (s.srShift c b).schedule = s.schedule := rfl

/-! `State.scoreAndShift` -/

@[simp] theorem State.scoreAndShift_sr (c : Params) (s : State) :
    (s.scoreAndShift c).sr = s.sr := rfl

@[simp] theorem State.scoreAndShift_score (c : Params) (s : State) :
    (s.scoreAndShift c).score = ⟨corrScore c .Z s.sr, corrScore c .O s.sr, corrScore c .M s.sr⟩ := rfl

@[simp] theorem State.scoreAndShift_board (c : Params) (s : State) :
    (s.scoreAndShift c).board = ⟨s.board.z.shift c (corrScore c .Z s.sr), s.board.o.shift c (corrScore c .O s.sr),
      s.board.m.shift c (corrScore c .M s.sr)⟩ := rfl

@[simp] theorem State.scoreAndShift_stream (c : Params) (s : State) :
    (s.scoreAndShift c).stream = s.stream := rfl

@[simp] theorem State.scoreAndShift_frameScore (c : Params) (s : State) :
    (s.scoreAndShift c).frameScore = s.frameScore := rfl

@[simp] theorem State.scoreAndShift_acq (c : Params) (s : State) :
    (s.scoreAndShift c).acq = s.acq := rfl

@[simp] theorem State.scoreAndShift_clock (c : Params) (s : State) :
    (s.scoreAndShift c).clock = s.clock := rfl

@[simp] theorem State.scoreAndShift_tod (c : Params) (s : State) :
    (s.scoreAndShift c).tod = s.tod := rfl

@[simp] theorem State.scoreAndShift_decRej (c : Params) (s : State) :
    (s.scoreAndShift c).decRej = s.decRej := rfl

@[simp] theorem State.scoreAndShift_error (c : Params) (s : State) :
    (s.scoreAndShift c).error = s.error := rfl

@[simp] theorem State.scoreAndShift_flags (c : Params) (s : State) :
    (s.scoreAndShift c).flags = s.flags := rfl

@[simp] theorem State.scoreAndShift_calStatus (c : Params) (s : State) :
    (s.scoreAndShift c).calStatus = s.calStatus := rfl

@[simp] theorem State.scoreAndShift_ports (c : Params) (s : State) :
    (s.scoreAndShift c).ports = s.ports := rfl

@[simp] theorem State.scoreAndShift_schedule (c : Params) (s : State) :
    (s.scoreAndShift c).schedule = s.schedule := rfl

/-! `State.countTick` -/

@[simp] theorem State.countTick_sr (s : State) :
    (s.countTick).sr = s.sr := rfl

@[simp] theorem State.countTick_score (s : State) :
    (s.countTick).score = s.score := rfl

@[simp] theorem State.countTick_board (s : State) :
    (s.countTick).board = s.board := rfl

@[simp] theorem State.countTick_stream (s : State) :
    (s.countTick).stream = s.stream := rfl

@[simp] theorem State.countTick_frameScore (s : State) :
    (s.countTick).frameScore = s.frameScore := rfl

@[simp] theorem State.countTick_acq (s : State) :
    (s.countTick).acq = { s.acq with tss := s.acq.tss + 1#32, tsp := s.acq.tsp + 1#32 } := rfl

@[simp] theorem State.countTick_clock (s : State) :
    (s.countTick).clock = s.clock := rfl

@[simp] theorem State.countTick_tod (s : State) :
    (s.countTick).tod = s.tod := rfl

@[simp] theorem State.countTick_decRej (s : State) :
    (s.countTick).decRej = s.decRej := rfl

@[simp] theorem State.countTick_error (s : State) :
    (s.countTick).error = s.error := rfl

@[simp] theorem State.countTick_flags (s : State) :
    (s.countTick).flags = s.flags := rfl

@[simp] theorem State.countTick_calStatus (s : State) :
    (s.countTick).calStatus = s.calStatus := rfl

@[simp] theorem State.countTick_ports (s : State) :
    (s.countTick).ports = s.ports := rfl

@[simp] theorem State.countTick_schedule (s : State) :
    (s.countTick).schedule = s.schedule := rfl

/-! `State.cadence` -/

@[simp] theorem State.cadence_sr (c : Params) (s : State) :
    (s.cadence c).sr = s.sr := rfl

@[simp] theorem State.cadence_score (c : Params) (s : State) :
    (s.cadence c).score = s.score := rfl

@[simp] theorem State.cadence_board (c : Params) (s : State) :
    (s.cadence c).board = s.board := rfl

@[simp] theorem State.cadence_stream (c : Params) (s : State) :
    (s.cadence c).stream = s.stream := rfl

@[simp] theorem State.cadence_frameScore (c : Params) (s : State) :
    (s.cadence c).frameScore = s.frameScore := rfl

@[simp] theorem State.cadence_acq (c : Params) (s : State) :
    (s.cadence c).acq = s.acq := rfl

@[simp] theorem State.cadence_clock (c : Params) (s : State) :
    (s.cadence c).clock = s.clock.cadence c := rfl

@[simp] theorem State.cadence_tod (c : Params) (s : State) :
    (s.cadence c).tod = s.tod := rfl

@[simp] theorem State.cadence_decRej (c : Params) (s : State) :
    (s.cadence c).decRej = s.decRej := rfl

@[simp] theorem State.cadence_error (c : Params) (s : State) :
    (s.cadence c).error = s.error := rfl

@[simp] theorem State.cadence_flags (c : Params) (s : State) :
    (s.cadence c).flags = s.flags := rfl

@[simp] theorem State.cadence_calStatus (c : Params) (s : State) :
    (s.cadence c).calStatus = s.calStatus := rfl

@[simp] theorem State.cadence_ports (c : Params) (s : State) :
    (s.cadence c).ports = { s.ports with periodOut := (s.clock.cadence c).period, compareOut := (s.clock.cadence c).compare } :=
  rfl

@[simp] theorem State.cadence_schedule (c : Params) (s : State) :
    (s.cadence c).schedule = s.schedule := rfl

end Sys2Proof.Machine
end

