-- ==== Sys2Proof/Laws/Ops.lean ====
section
/-! SUPPORT. For each shared operation, one lemma that says once everything it can do; the provers cite these instead of
unfolding the operation. -/

namespace Sys2Proof.Machine

/-! ### The step and the dispatch -/

/-- A step that answers a next state is idle, or executes the presented command, which came after `cmd_done`. -/
theorem step_cases {s t : State} (h : step s = .next t) :
    (s.schedule = [] ∧ t = s.idle) ∨
      ∃ p rest, s.schedule = p :: rest ∧ p.early = false ∧ execute p.word (s.accept p rest) = .next t := by
  unfold step executeNext executeNextBy at h
  split at h
  · rename_i hs
    exact .inl ⟨hs, by simpa using h.symm⟩
  · rename_i p rest hs
    split at h
    · simp at h
    · rename_i he
      exact .inr ⟨p, rest, hs, by simpa using he, h⟩

/-- A step whose presented command came after `cmd_done` executes it. -/
theorem step_of_presented {s : State} {p : Presentation} {rest : List Presentation} (hs : s.schedule = p :: rest)
    (he : p.early = false) : step s = execute p.word (s.accept p rest) := by
  simp [step, executeNext, executeNextBy, execute, hs, he]

/-- A word that executes to a next state is a command's, or takes IllegalCommand. -/
theorem execute_cases {w : CommandWord} {s t : State} (h : execute w s = .next t) :
    (∃ i, decode w = .ok i ∧ exec i s = .next t) ∨ ∃ k, decode w = .error k ∧ t = s.raiseIllegal k w := by
  unfold execute executeBy at h
  split at h
  · rename_i i hd
    exact .inl ⟨i, hd, h⟩
  · rename_i k hd
    exact .inr ⟨k, hd, by simpa using h.symm⟩

/-- The word of a command executes it. -/
theorem execute_of_decode {w : CommandWord} {i : Instr} (h : decode w = .ok i) (s : State) :
    execute w s = exec i s := by
  simp [execute, executeBy, h]

/-- An illegal word takes the exception. -/
theorem execute_of_illegal {w : CommandWord} {k : IllegalCause} (h : decode w = .error k) (s : State) :
    execute w s = .next (s.raiseIllegal k w) := by
  simp [execute, executeBy, h]

/-- TICK answers a next state exactly when step 5 does, and then it finishes the tick. -/
theorem exec_tick_next_iff {b : Bool} {s t : State} :
    exec (.tick b) s = .next t ↔
      ∃ mid, (s.takeSample Config.block b).acquisitionTick Config.block = .ok mid ∧ t = (mid.finishTick Config.block).complete := by
  simp only [exec, execTick, execTickWith, State.tick]
  cases h : (s.takeSample Config.block b).acquisitionTick Config.block with
  | ok m => simp [eq_comm]
  | error e => simp

/-- What RD answers. -/
theorem exec_rd (a : BitVec 8) (s : State) : exec (.rd a) s = .next (s.emitRdata (readReg s a)).complete := rfl

/-- What CLRF answers. -/
theorem exec_clrf (m : BitVec 6) (s : State) : exec (.clrf m) s = .next (s.clearFlags m).complete := rfl

/-- What RESET answers. -/
theorem exec_reset (p : Bool) (s : State) : exec (.reset p) s = .next (s.resetBlock Config.block p).complete := rfl

/-! ### The flags -/

theorem State.flag_raiseFlag (f g : Flag) (s : State) : (s.raiseFlag f).flag g = (s.flag g || decide (f = g)) := by
  cases f <;> cases g <;> simp [State.flag, Flag.mask, Flag.index]

theorem State.flag_raiseFlagIf (b : Bool) (f g : Flag) (s : State) :
    (s.raiseFlagIf b f).flag g = (s.flag g || (b && decide (f = g))) := by
  cases b <;> simp [State.raiseFlagIf, State.flag_raiseFlag]

theorem State.flag_clearFlags (m : BitVec 6) (g : Flag) (s : State) :
    (s.clearFlags m).flag g = (s.flag g && !m.getLsbD g.index) := by
  cases g <;> simp [State.flag, Flag.index]

/-- A flag is read from FLAGS alone. -/
theorem State.flag_congr {s t : State} (h : s.flags = t.flags) (f : Flag) : s.flag f = t.flag f := by
  simp [State.flag, h]

/-! ### Steps 2 to 4 and 6 to 8 of TICK -/

/-- Steps 2 to 4 write the sample register, the scores, the boards and the two counters, and nothing else. -/
theorem State.takeSample_eq (c : Params) (b : Bool) (s : State) :
    s.takeSample c b =
      { s with
        sr := Machine.srShift c b s.sr
        score := (s.takeSample c b).score
        board := (s.takeSample c b).board
        acq := { s.acq with tss := s.acq.tss + 1#32, tsp := s.acq.tsp + 1#32 } } := rfl

@[simp] theorem State.takeSample_sr (c : Params) (b : Bool) (s : State) :
    (s.takeSample c b).sr = Machine.srShift c b s.sr := rfl

@[simp] theorem State.takeSample_acq (c : Params) (b : Bool) (s : State) :
    (s.takeSample c b).acq = { s.acq with tss := s.acq.tss + 1#32, tsp := s.acq.tsp + 1#32 } := rfl

@[simp] theorem State.takeSample_stream (c : Params) (b : Bool) (s : State) :
    (s.takeSample c b).stream = s.stream := rfl

@[simp] theorem State.takeSample_frameScore (c : Params) (b : Bool) (s : State) :
    (s.takeSample c b).frameScore = s.frameScore := rfl

@[simp] theorem State.takeSample_clock (c : Params) (b : Bool) (s : State) :
    (s.takeSample c b).clock = s.clock := rfl

@[simp] theorem State.takeSample_tod (c : Params) (b : Bool) (s : State) : (s.takeSample c b).tod = s.tod := rfl

@[simp] theorem State.takeSample_decRej (c : Params) (b : Bool) (s : State) :
    (s.takeSample c b).decRej = s.decRej := rfl

@[simp] theorem State.takeSample_error (c : Params) (b : Bool) (s : State) :
    (s.takeSample c b).error = s.error := rfl

@[simp] theorem State.takeSample_flags (c : Params) (b : Bool) (s : State) :
    (s.takeSample c b).flags = s.flags := rfl

@[simp] theorem State.takeSample_calStatus (c : Params) (b : Bool) (s : State) :
    (s.takeSample c b).calStatus = s.calStatus := rfl

@[simp] theorem State.takeSample_ports (c : Params) (b : Bool) (s : State) :
    (s.takeSample c b).ports = s.ports := rfl

@[simp] theorem State.takeSample_schedule (c : Params) (b : Bool) (s : State) :
    (s.takeSample c b).schedule = s.schedule := rfl

/-- The score of each board after steps 2 to 4, and its board. -/
theorem State.takeSample_board (c : Params) (b : Bool) (s : State) (k : Board) :
    (s.takeSample c b).score.get k = corrScore c k (Machine.srShift c b s.sr)
      ∧ (s.takeSample c b).board.get k = (s.board.get k).shift c (corrScore c k (Machine.srShift c b s.sr)) := by
  cases k <;> exact ⟨rfl, rfl⟩

/-- Step 6 advances the time of day and raises flags, and nothing else. -/
theorem State.todAdvance_eq (s : State) : s.todAdvance = { s with tod := s.tod.advance, flags := s.todAdvance.flags } := by
  unfold State.todAdvance State.raiseFlagIf
  split <;> split <;> rfl

/-- The flags after step 6. -/
theorem State.flag_todAdvance (s : State) (g : Flag) :
    s.todAdvance.flag g =
      (s.flag g || (s.tod.secondRolls && decide (Flag.secondChanged = g))
        || (s.tod.minuteRolls && decide (Flag.minuteChanged = g))) := by
  unfold State.todAdvance
  rw [State.flag_raiseFlagIf, State.flag_raiseFlagIf]
  rfl

/-- Steps 6 to 8 write the time of day, the flags, the cadence and the period outputs, and nothing else. -/
theorem State.finishTick_eq (c : Params) (s : State) :
    s.finishTick c =
      { s with
        tod := s.tod.advance
        flags := (s.finishTick c).flags
        clock := s.clock.cadence c
        ports := { s.ports with
          periodOut := (s.clock.cadence c).period
          compareOut := (s.clock.cadence c).compare } } := by
  unfold State.finishTick
  rw [State.todAdvance_eq]
  rfl

/-- The flags after steps 6 to 8. -/
theorem State.flag_finishTick (c : Params) (s : State) (g : Flag) :
    (s.finishTick c).flag g =
      (s.flag g || (s.tod.secondRolls && decide (Flag.secondChanged = g))
        || (s.tod.minuteRolls && decide (Flag.minuteChanged = g)) || decide (Flag.needsUiRefresh = g)) := by
  have h : (s.finishTick c).flag g = (s.todAdvance.raiseFlag .needsUiRefresh).flag g := State.flag_congr rfl g
  rw [h, State.flag_raiseFlag, State.flag_todAdvance]

/-! ### A push into the stream -/

/-- What a push does: the stream shifts and is scored; at 60 `valid_frame` is raised and the frame decoded, and
otherwise nothing else changes. -/
theorem State.ssShift_cases (c : Params) (sym : Symbol) (s : State) :
    (frameAlignment c (pushSymbol c sym s.stream) ≠ 60 ∧
        s.ssShift c sym =
          { s with
            stream := pushSymbol c sym s.stream
            frameScore := trunc8 (frameAlignment c (pushSymbol c sym s.stream)) }) ∨
      (frameAlignment c (pushSymbol c sym s.stream) = 60 ∧ (frameDigits (pushSymbol c sym s.stream)).inRange = true ∧
        s.ssShift c sym =
          { s with
            stream := pushSymbol c sym s.stream
            frameScore := trunc8 (frameAlignment c (pushSymbol c sym s.stream))
            flags := s.flags ||| Flag.validFrame.mask
            decRej := false
            tod := (frameDigits (pushSymbol c sym s.stream)).load c s.tod }) ∨
      (frameAlignment c (pushSymbol c sym s.stream) = 60 ∧ (frameDigits (pushSymbol c sym s.stream)).inRange = false ∧
        s.ssShift c sym =
          { s with
            stream := pushSymbol c sym s.stream
            frameScore := trunc8 (frameAlignment c (pushSymbol c sym s.stream))
            flags := s.flags ||| Flag.validFrame.mask
            decRej := true }) := by
  by_cases h : frameAlignment c (pushSymbol c sym s.stream) = 60
  · cases hr : (frameDigits (pushSymbol c sym s.stream)).inRange with
    | true => exact .inr (.inl ⟨h, rfl, by
        simp [State.ssShift, State.frameScoreUpdate, h, State.frameDecode, hr, State.raiseFlag]⟩)
    | false => exact .inr (.inr ⟨h, rfl, by
        simp [State.ssShift, State.frameScoreUpdate, h, State.frameDecode, hr, State.raiseFlag]⟩)
  · exact .inl ⟨h, by simp [State.ssShift, State.frameScoreUpdate, h]⟩

/-- A push writes the stream, its score, the flags, DEC_REJ and the time of day, and nothing else. -/
theorem State.ssShift_eq (c : Params) (sym : Symbol) (s : State) :
    s.ssShift c sym =
      { s with
        stream := pushSymbol c sym s.stream
        frameScore := trunc8 (frameAlignment c (pushSymbol c sym s.stream))
        flags := (s.ssShift c sym).flags
        decRej := (s.ssShift c sym).decRej
        tod := (s.ssShift c sym).tod } := by
  obtain ⟨-, h⟩ | ⟨-, -, h⟩ | ⟨-, -, h⟩ := s.ssShift_cases c sym <;> rw [h]

@[simp] theorem State.ssShift_acq (c : Params) (sym : Symbol) (s : State) : (s.ssShift c sym).acq = s.acq := by
  rw [State.ssShift_eq]

@[simp] theorem State.ssShift_clock (c : Params) (sym : Symbol) (s : State) :
    (s.ssShift c sym).clock = s.clock := by rw [State.ssShift_eq]

@[simp] theorem State.ssShift_stream (c : Params) (sym : Symbol) (s : State) :
    (s.ssShift c sym).stream = pushSymbol c sym s.stream := by rw [State.ssShift_eq]

@[simp] theorem State.ssShift_frameScore (c : Params) (sym : Symbol) (s : State) :
    (s.ssShift c sym).frameScore = trunc8 (frameAlignment c (pushSymbol c sym s.stream)) := by rw [State.ssShift_eq]

/-! ### Step 5 of TICK -/

/-- The adjust answers a clock exactly when `apparent_ticks` is positive, and changes `SCALED` alone. -/
theorem Clock.adjust_ok_iff {c : Params} {n : Nat} {a : Int} {k k' : Clock} :
    k.adjust c n a = .ok k' ↔ 0 < a ∧ k' = { k with scaled := trunc32 (adjustedScaled c k.scaled.toNat n a.toNat) } := by
  unfold Clock.adjust
  split
  · simp; omega
  · simp [eq_comm]; omega

/-- What the discipline check does when it answers a state: nothing when it is not due, else the adjust. -/
theorem State.disciplineCheck_cases {c : Params} {s t : State} (h : s.disciplineCheck c = .ok t) :
    (s.acq.disciplineDue c = false ∧ t = s) ∨
      (s.acq.disciplineDue c = true ∧ 0 < s.acq.apparentTicks ∧
        t.clock = { s.clock with
          scaled := trunc32 (adjustedScaled c s.clock.scaled.toNat s.acq.tss.toNat s.acq.apparentTicks.toNat) } ∧
        t = { s with
          clock := t.clock
          acq := { s.acq with acc := 0#16, tss := 0#32 }
          flags := if t.clock.scaled = s.clock.scaled then s.flags else s.flags ||| Flag.tickIntervalChanged.mask }) := by
  unfold State.disciplineCheck at h
  split at h
  · rename_i hd
    split at h
    · simp at h
    · rename_i k hk
      obtain ⟨hp, rfl⟩ := Clock.adjust_ok_iff.mp hk
      injection h with h
      subst h
      refine .inr ⟨hd, hp, by simp, ?_⟩
      by_cases he : trunc32 (adjustedScaled c s.clock.scaled.toNat s.acq.tss.toNat s.acq.apparentTicks.toNat)
          = s.clock.scaled <;> simp [he, State.raiseFlagIf, State.raiseFlag]
  · rename_i hd
    injection h with h
    exact .inl ⟨by simpa using hd, h.symm⟩

/-- The discipline check answers a state exactly when it is not due or `apparent_ticks` is positive. -/
theorem State.disciplineCheck_isOk {c : Params} {s : State}
    (h : s.acq.disciplineDue c = true → 0 < s.acq.apparentTicks) : ∃ t, s.disciplineCheck c = .ok t := by
  unfold State.disciplineCheck
  by_cases hd : s.acq.disciplineDue c = true
  · obtain ⟨k, hk⟩ : ∃ k, s.clock.adjust c s.acq.tss.toNat s.acq.apparentTicks = .ok k :=
      ⟨_, Clock.adjust_ok_iff.mpr ⟨h hd, rfl⟩⟩
    simp [hd, hk]
  · simp [hd]

/-- What the persistence check does. -/
theorem State.persistCheck_cases (c : Params) (s : State) :
    (s.acq.tsp.toNat < c.persistAfterTicks ∧ s.persistCheck c = s) ∨
      (c.persistAfterTicks ≤ s.acq.tsp.toNat ∧
        s.persistCheck c =
          { s with acq := { s.acq with tsp := 0#32 }, flags := s.flags ||| Flag.paramsUnsaved.mask }) := by
  unfold State.persistCheck
  split
  · exact .inr ⟨by assumption, rfl⟩
  · exact .inl ⟨by omega, rfl⟩

/-- Step 5 in SEEK, by whether a symbol is detected. -/
theorem State.seekTick_cases (c : Params) (s : State) :
    (detectSeek c s.board = none ∧ s.seekTick c = s) ∨
      ∃ sym, detectSeek c s.board = some sym ∧
        s.seekTick c = { s.ssShift c sym with acq := s.acq.countDetection c } := by
  unfold State.seekTick
  cases h : detectSeek c s.board with
  | none => exact .inl ⟨rfl, rfl⟩
  | some sym => exact .inr ⟨sym, rfl, by simp⟩

/-- A push does not read the acquisition state. -/
theorem State.ssShift_with_acq (c : Params) (sym : Symbol) (s : State) (a : Acquisition) :
    { s with acq := a }.ssShift c sym = { s.ssShift c sym with acq := a } := by
  by_cases h : frameAlignment c (pushSymbol c sym s.stream) = 60 <;>
    cases hr : (frameDigits (pushSymbol c sym s.stream)).inRange <;>
    simp [State.ssShift, State.frameScoreUpdate, State.frameDecode, State.raiseFlag, h, hr]

/-- The countdown and the peek of a SYNC tick, by whether the count reaches 0 and what the detector answers. -/
theorem State.countDown_cases (c : Params) (s : State) :
    (s.acq.peekIn ≠ 1#8 ∧ s.countDown c = { s with acq := { s.acq with peekIn := s.acq.peekIn - 1#8 } }) ∨
      (s.acq.peekIn = 1#8 ∧ ∃ sym off, detectSync c s.board = some (sym, off) ∧
        s.countDown c = { s.ssShift c sym with acq := s.acq.hit c off }) ∨
      (s.acq.peekIn = 1#8 ∧ detectSync c s.board = none ∧
        s.countDown c = { s.ssShift c .missing with acq := s.acq.miss c }) := by
  have hz : s.acq.peekIn - 1#8 = 0#8 ↔ s.acq.peekIn = 1#8 := by
    constructor <;> intro h
    · bv_omega
    · simp [h]
  by_cases h : s.acq.peekIn = 1#8
  · right
    cases hd : detectSync c s.board with
    | none =>
      refine .inr ⟨h, rfl, ?_⟩
      simp only [State.countDown, State.peek, h, hd, State.ssShift_with_acq]
      rfl
    | some p =>
      refine .inl ⟨h, p.1, p.2, rfl, ?_⟩
      simp only [State.countDown, State.peek, h, hd, State.ssShift_with_acq]
      rfl
  · exact .inl ⟨h, by simp [State.countDown, hz, h]⟩

/-- What step 5 does in SYNC when it answers a state: the countdown and any peek, then, unless the peek returned to
SEEK, the two checks. -/
theorem State.syncTick_cases {c : Params} {s t : State} (h : s.syncTick c = .ok t) :
    ((s.countDown c).acq.mode = .seek ∧ t = s.countDown c) ∨
      ((s.countDown c).acq.mode = .sync ∧ ∃ u, (s.countDown c).disciplineCheck c = .ok u ∧ t = u.persistCheck c) := by
  unfold State.syncTick at h
  cases hm : (s.countDown c).acq.mode with
  | seek => simp [hm] at h; exact .inl ⟨rfl, h.symm⟩
  | sync =>
    cases hd : (s.countDown c).disciplineCheck c with
    | error e => simp [hm, hd] at h
    | ok u => simp [hm, hd] at h; exact .inr ⟨rfl, u, rfl, h.symm⟩

/-- What step 5 does when it answers a state (45_acquisition.md R220). -/
theorem State.acquisitionTick_cases {c : Params} {s t : State} (h : s.acquisitionTick c = .ok t) :
    (s.acq.mode = .seek ∧ t = s.seekTick c) ∨ (s.acq.mode = .sync ∧ s.syncTick c = .ok t) := by
  unfold State.acquisitionTick at h
  cases hm : s.acq.mode with
  | seek => simp [hm] at h; exact .inl ⟨rfl, h.symm⟩
  | sync => simp [hm] at h; exact .inr ⟨rfl, h⟩

/-- Step 5 writes the stream and its score, the acquisition state, the clock, the flags, DEC_REJ and the time of day, and
nothing else. -/
theorem State.acquisitionTick_frame {c : Params} {s t : State} (h : s.acquisitionTick c = .ok t) :
    t.sr = s.sr ∧ t.score = s.score ∧ t.board = s.board ∧ t.error = s.error ∧ t.calStatus = s.calStatus
      ∧ t.ports = s.ports ∧ t.schedule = s.schedule := by
  have hcount : ∀ u : State, u = s.countDown c →
      u.sr = s.sr ∧ u.score = s.score ∧ u.board = s.board ∧ u.error = s.error ∧ u.calStatus = s.calStatus
        ∧ u.ports = s.ports ∧ u.schedule = s.schedule := by
    rintro u rfl
    obtain ⟨-, h⟩ | ⟨-, sym, off, -, h⟩ | ⟨-, -, h⟩ := s.countDown_cases c
    · simp [h]
    · rw [h, State.ssShift_eq]; simp
    · rw [h, State.ssShift_eq]; simp
  obtain ⟨-, rfl⟩ | ⟨-, h⟩ := State.acquisitionTick_cases h
  · obtain ⟨-, h⟩ | ⟨sym, -, h⟩ := s.seekTick_cases c
    · simp [h]
    · rw [h, State.ssShift_eq]; simp
  · obtain ⟨-, rfl⟩ | ⟨-, u, hu, rfl⟩ := State.syncTick_cases h
    · exact hcount _ rfl
    · have hc := hcount _ rfl
      have hd : u.sr = s.sr ∧ u.score = s.score ∧ u.board = s.board ∧ u.error = s.error
          ∧ u.calStatus = s.calStatus ∧ u.ports = s.ports ∧ u.schedule = s.schedule := by
        obtain ⟨-, rfl⟩ | ⟨-, -, -, h⟩ := State.disciplineCheck_cases hu
        · exact hc
        · rw [h]; exact hc
      obtain ⟨-, h⟩ | ⟨-, h⟩ := u.persistCheck_cases c <;> rw [h] <;> exact hd

end Sys2Proof.Machine
end

