-- ==== Sys2Proof/Laws/Components.lean ====
section
/-! SUPPORT. One spec lemma per operation of the components: boards and peaks, stream, time of day, cadence, calibration,
register space. -/

namespace Sys2Proof.Machine

/-! ### Boards and peaks (41_scoreboard.md) -/

/-- In the specified hardware a board has eleven slots. -/
@[simp] theorem activeLen_block : activeLen Config.block = 11 := rfl

@[simp] theorem shiftSlots_zero (c : Params) (v : Byte) (slots : Vector Byte 11) :
    (shiftSlots c v slots)[(0 : Fin 11)] = v := by
  simp [shiftSlots]

@[simp] theorem shiftSlots_succ (v : Byte) (slots : Vector Byte 11) (i : Fin 10) :
    (shiftSlots Config.block v slots)[i.succ] = slots[i.castSucc] := by
  simp [shiftSlots]

@[simp] theorem block_peakTie : Config.block.peakTie = .lowest := rfl

/-- In the specified hardware every slot is active. -/
@[simp] theorem Scoreboard.activeSlots_block (b : Scoreboard) : b.activeSlots Config.block = b.slots.toList :=
  List.take_of_length_le (by simp)

/-- What the LOWEST scan answers: a value no smaller than any it met, and either the best so far or the first listed
slot that holds that value. -/
theorem peakScanLowest_spec (vs : List Byte) (i : Nat) (best : Byte × Nat) :
    best.1.toNat ≤ (peakScanLowest vs i best).1.toNat
      ∧ (∀ x ∈ vs, x.toNat ≤ (peakScanLowest vs i best).1.toNat)
      ∧ (peakScanLowest vs i best = best ∨
          ∃ j, ∃ h : j < vs.length, (peakScanLowest vs i best).2 = i + j
            ∧ vs[j] = (peakScanLowest vs i best).1 ∧ best.1.toNat < (peakScanLowest vs i best).1.toNat
            ∧ ∀ j' (h' : j' < j), (vs[j']).toNat < (peakScanLowest vs i best).1.toNat) := by
  induction vs generalizing i best with
  | nil => exact ⟨le_refl _, by simp, .inl rfl⟩
  | cons v vs ih =>
    simp only [peakScanLowest]
    by_cases hlt : best.1.toNat < v.toNat
    · obtain ⟨hb, hall, hpos⟩ := ih (i + 1) (v, i)
      simp only [hlt, if_true]
      refine ⟨by simp only at hb; omega, ?_, .inr ?_⟩
      · intro x hx
        rcases List.mem_cons.mp hx with rfl | hx
        · exact hb
        · exact hall x hx
      · rcases hpos with he | ⟨j, hj, h2, h1, hlt', hmin⟩
        · exact ⟨0, by simp, by rw [he]; simp, by rw [he]; simp, by rw [he]; exact hlt, by simp⟩
        · refine ⟨j + 1, by simpa using hj, by rw [h2]; omega, by simpa using h1, by simp only at hlt'; omega, ?_⟩
          intro j' hj'
          cases j' with
          | zero => simpa using hlt'
          | succ n => simpa using hmin n (by omega)
    · obtain ⟨hb, hall, hpos⟩ := ih (i + 1) best
      simp only [hlt, if_false]
      refine ⟨hb, ?_, ?_⟩
      · intro x hx
        rcases List.mem_cons.mp hx with rfl | hx
        · omega
        · exact hall x hx
      · rcases hpos with he | ⟨j, hj, h2, h1, hlt', hmin⟩
        · exact .inl he
        · refine .inr ⟨j + 1, by simpa using hj, by rw [h2]; omega, by simpa using h1, hlt', ?_⟩
          intro j' hj'
          cases j' with
          | zero => simp only [List.getElem_cons_zero]; omega
          | succ n => simpa using hmin n (by omega)

/-- The peak of a non-empty list of slots under the LOWEST tie rule: the maximum, at the first slot that holds it. -/
theorem peakOf_lowest_spec (v : Byte) (vs : List Byte) (old : Nat) (r : Byte × Nat)
    (hr : r = peakOf .lowest old (v :: vs)) :
    r.2 < (v :: vs).length ∧ (v :: vs).getD r.2 0#8 = r.1 ∧ (∀ x ∈ v :: vs, x.toNat ≤ r.1.toNat)
      ∧ ∀ j < r.2, ((v :: vs).getD j 0#8).toNat < r.1.toNat := by
  obtain ⟨hb, hall, hpos⟩ := peakScanLowest_spec vs 1 (v, 0)
  have hp : r = peakScanLowest vs 1 (v, 0) := hr
  rw [← hp] at hb hall hpos
  have hmax : ∀ x ∈ v :: vs, x.toNat ≤ r.1.toNat := by
    intro x hx
    rcases List.mem_cons.mp hx with rfl | hx
    · exact hb
    · exact hall x hx
  rcases hpos with he | ⟨j, hj, h2, h1, hlt, hmin⟩
  · refine ⟨by simp [he], by simp [he], hmax, by simp [he]⟩
  · have hidx : r.2 = j + 1 := by omega
    refine ⟨by rw [hidx]; simpa using hj, ?_, hmax, ?_⟩
    · rw [hidx, List.getD_cons_succ, List.getD_eq_getElem _ _ hj, h1]
    · intro j' hj'
      cases j' with
      | zero => simpa using hlt
      | succ n =>
        rw [List.getD_cons_succ, List.getD_eq_getElem _ _ (by omega)]
        exact hmin n (by omega)

/-- A peak update leaves the slots and caches their peak (41_scoreboard.md R141). -/
theorem Scoreboard.peakUpdate_spec (b : Scoreboard) :
    (b.peakUpdate Config.block).slots = b.slots ∧ (b.peakUpdate Config.block).PeakCached := by
  refine ⟨rfl, ?_⟩
  obtain ⟨v, vs, hl⟩ : ∃ v vs, b.slots.toList = v :: vs := by
    cases h : b.slots.toList with
    | nil => have := congrArg List.length h; simp at this
    | cons v vs => exact ⟨v, vs, rfl⟩
  have hlen : (v :: vs).length = 11 := by rw [← hl]; simp
  obtain ⟨hi, hat, hmax, hmin⟩ := peakOf_lowest_spec v vs b.peakI.toNat _ rfl
  have hI : (b.peakUpdate Config.block).peakI.toNat = (peakOf .lowest b.peakI.toNat (v :: vs)).2 := by
    simp only [Scoreboard.peakUpdate, Scoreboard.activeSlots_block, block_peakTie, hl, trunc8, BitVec.toNat_ofNat]
    omega
  have hV : (b.peakUpdate Config.block).peakV = (peakOf .lowest b.peakI.toNat (v :: vs)).1 := by
    simp only [Scoreboard.peakUpdate, Scoreboard.activeSlots_block, block_peakTie, hl]
  have hslot : ∀ i : Fin 11, (b.peakUpdate Config.block).slots[i] = (v :: vs).getD i.val 0#8 := by
    intro i
    rw [← hl, List.getD_eq_getElem _ _ (by simp)]
    simp [Scoreboard.peakUpdate]
  refine ⟨by omega, ?_, ?_, ?_⟩
  · rw [hI, hV, show (b.peakUpdate Config.block).slots.toList = v :: vs from hl]
    exact hat
  · intro i
    rw [hV, hslot, List.getD_eq_getElem _ _ (by omega)]
    exact hmax _ (List.getElem_mem _)
  · intro i hlt
    rw [hI] at hlt
    rw [hV, hslot]
    exact hmin _ hlt

/-- A shift puts the score at slot 0, moves every other slot one older, and caches the peak (41_scoreboard.md R140). -/
theorem Scoreboard.shift_spec (v : Byte) (b : Scoreboard) :
    (b.shift Config.block v).slots = shiftSlots Config.block v b.slots ∧ (b.shift Config.block v).PeakCached :=
  Scoreboard.peakUpdate_spec { b with slots := shiftSlots Config.block v b.slots }

/-! ### Samples and scores (40_sample_correlator.md) -/

/-- In the specified hardware every bit is kept. -/
@[simp] theorem keepBits_block (v : SampleWord) : keepBits Config.block v = v := by
  simp [keepBits, Config.block]

/-- The score of the specified hardware (R124). -/
theorem matchingBits_block (k : Board) (sr : SampleWord) :
    matchingBits Config.block k sr = 80 - popcount (sr ^^^ template Config.block k) := by
  simp only [matchingBits, keepBits_block]
  rfl

/-- A score is at most 80 (40_sample_correlator.md R124). -/
theorem corrScore_le (k : Board) (sr : SampleWord) : (corrScore Config.block k sr).toNat ≤ 80 := by
  simp only [corrScore, matchingBits, Config.block, trunc8, BitVec.toNat_ofNat]
  omega

/-! ### Stream (43_symbol_stream.md) -/

@[simp] theorem pushSymbol_last (sym : Symbol) (st : Vector Symbol 60) :
    (pushSymbol Config.block sym st)[(59 : Fin 60)] = sym := by
  simp [pushSymbol, Config.block]

@[simp] theorem pushSymbol_castSucc (sym : Symbol) (st : Vector Symbol 60) (i : Fin 59) :
    (pushSymbol Config.block sym st)[i.castSucc] = st[i.succ] := by
  have := i.isLt
  simp [pushSymbol, Config.block, show i.val ≠ 59 by omega, show i.val + 1 < 60 by omega]

/-- In the specified hardware every slot is scored. -/
theorem frameAlignment_block (st : Vector Symbol 60) :
    frameAlignment Config.block st = (List.finRange 60).countP fun i => positionScores i.val st[i] := by
  simp [frameAlignment, Config.block]

/-- A frame-alignment score is at most 60. -/
theorem frameAlignment_le (c : Params) (st : Vector Symbol 60) : frameAlignment c st ≤ 60 := by
  simpa [frameAlignment] using
    List.countP_le_length (p := fun i : Fin 60 => decide (i.val < c.streamLen) && positionScores i.val st[i])
      (l := List.finRange 60)

/-- A bit of a frame is 0 or 1. -/
theorem frameBit_le (st : Vector Symbol 60) (i : Fin 60) : frameBit st i ≤ 1 := by
  unfold frameBit
  split <;> omega

/-! ### Time of day (47_time_of_day.md) -/

/-- What a tick does to the time of day (R280). -/
theorem TimeOfDay.advance_cases (t : TimeOfDay) :
    (t.secondRolls = false ∧ t.advance = { t with ticks := t.ticks + 1#8 }) ∨
      (t.secondRolls = true ∧ t.minuteRolls = false ∧
        t.advance = { t with ticks := 0#8, seconds := t.seconds + 1#8 }) ∨
      (t.secondRolls = true ∧ t.minuteRolls = true ∧
        t.advance = { t with ticks := 0#8, seconds := 0#8, isLeapMinute := false }.minuteCarry) := by
  unfold TimeOfDay.advance
  cases hs : t.secondRolls with
  | false =>
    have hm : t.minuteRolls = false := by simp [TimeOfDay.minuteRolls, hs]
    exact .inl ⟨rfl, by simp [hm]⟩
  | true =>
    cases hm : t.minuteRolls with
    | false => exact .inr (.inl ⟨rfl, rfl, by simp⟩)
    | true => exact .inr (.inr ⟨rfl, rfl, by simp⟩)

/-- What a minute carry does (R281). -/
theorem TimeOfDay.minuteCarry_cases (t : TimeOfDay) :
    (t.minutes + 1#8 ≠ 60#8 ∧ t.minuteCarry = { t with minutes := t.minutes + 1#8 }) ∨
      (t.minutes + 1#8 = 60#8 ∧ t.hours + 1#8 ≠ 24#8 ∧
        t.minuteCarry = { t with minutes := 0#8, hours := t.hours + 1#8 }) ∨
      (t.minutes + 1#8 = 60#8 ∧ t.hours + 1#8 = 24#8 ∧ (t.day + 1#16).toNat ≤ t.lastDay ∧
        t.minuteCarry = { t with minutes := 0#8, hours := 0#8, day := t.day + 1#16 }) ∨
      (t.minutes + 1#8 = 60#8 ∧ t.hours + 1#8 = 24#8 ∧ t.lastDay < (t.day + 1#16).toNat ∧
        t.minuteCarry =
          { t with
            minutes := 0#8
            hours := 0#8
            day := 1#16
            year := t.year + 1#16
            isLeapYear := gregorianLeap (t.year + 1#16).toNat }) := by
  unfold TimeOfDay.minuteCarry TimeOfDay.hourCarry TimeOfDay.dayCarry TimeOfDay.yearCarry TimeOfDay.lastDay
  by_cases hm : t.minutes + 1#8 = 60#8
  · by_cases hh : t.hours + 1#8 = 24#8
    · by_cases hd : (if t.isLeapYear then 366 else 365) < (t.day + 1#16).toNat
      · exact .inr (.inr (.inr ⟨hm, hh, hd, by simp only [hm, hh, hd, if_true]⟩))
      · exact .inr (.inr (.inl ⟨hm, hh, not_lt.mp hd, by simp only [hm, hh, hd, if_true, if_false]⟩))
    · exact .inr (.inl ⟨hm, hh, by simp [hm, hh]⟩)
  · exact .inl ⟨hm, by simp [hm]⟩

/-! ### Cadence (46_clock_discipline.md) -/

/-- In range, the views `WHOLE` and `FRAC` are the exact quotient and remainder (R254). -/
theorem Clock.views_of_inRange {k : Clock} (h : k.scaled.toNat ≤ 2239998) :
    (k.whole Config.block).toNat = k.scaled.toNat / 64 ∧ (k.frac Config.block).toNat = k.scaled.toNat % 64 := by
  simp only [Clock.whole, Clock.frac, trunc16, trunc8, Config.block, BitVec.toNat_ofNat]
  omega

/-- A cadence step leaves `SCALED`. -/
@[simp] theorem Clock.cadence_scaled (c : Params) (k : Clock) : (k.cadence c).scaled = k.scaled := rfl

@[simp] theorem Clock.cadences_scaled (n : Nat) (k : Clock) : (k.cadences n).scaled = k.scaled := by
  induction n generalizing k with
  | zero => rfl
  | succ n ih => simpa [Clock.cadences] using ih (k.cadence Config.block)

/-- The adjusted `SCALED` fits 32 bits: nothing is truncated when it is stored (R253, 00_scope.md R12). -/
theorem adjustedScaled_block_range (scaled n a : Nat) :
    2026666 ≤ adjustedScaled Config.block scaled n a ∧ adjustedScaled Config.block scaled n a ≤ 2239998 := by
  have h1 : Config.block.scaledMin = 2026666 := rfl
  have h2 : Config.block.scaledMax = 2239998 := rfl
  simp only [adjustedScaled, clamp, h1, h2]
  omega

/-! ### Calibration (48_calibration.md) -/

/-- What the calibration load answers: the default, or an in-range record's value with its version (R301). -/
theorem calLoad_cases (p : Bool) (r : CalRecord) :
    calLoad Config.block p r = (2133332, 0) ∨
      (p = true ∧ recordVersion r = 1 ∧ 2026666 ≤ recordScaled r * 4 ∧ recordScaled r * 4 ≤ 2239998 ∧
        calLoad Config.block p r = (recordScaled r * 4, 1)) ∨
      (p = true ∧ recordVersion r = 2 ∧ 2026666 ≤ recordScaled r ∧ recordScaled r ≤ 2239998 ∧
        calLoad Config.block p r = (recordScaled r, 2)) := by
  have h1 : Config.block.scaledMin = 2026666 := rfl
  have h2 : Config.block.scaledMax = 2239998 := rfl
  have h3 : Config.block.nominalScaled = 2133332 := rfl
  cases p with
  | false => exact .inl (by simp [calLoad, h3])
  | true =>
    by_cases hv1 : recordVersion r = 1
    · by_cases hr : 2026666 ≤ recordScaled r * 4 ∧ recordScaled r * 4 ≤ 2239998
      · exact .inr (.inl ⟨rfl, hv1, hr.1, hr.2, by simp [calLoad, recordCandidate, hv1, h1, h2, hr]⟩)
      · exact .inl (by simp [calLoad, recordCandidate, hv1, h1, h2, h3]; omega)
    · by_cases hv2 : recordVersion r = 2
      · by_cases hr : 2026666 ≤ recordScaled r ∧ recordScaled r ≤ 2239998
        · exact .inr (.inr ⟨rfl, hv2, hr.1, hr.2, by simp [calLoad, recordCandidate, hv2, h1, h2, hr]⟩)
        · exact .inl (by simp [calLoad, recordCandidate, hv2, h1, h2, h3]; omega)
      · exact .inl (by simp [calLoad, recordCandidate, hv1, hv2, h3])

/-- The fields of a record as arithmetic on its 40 bits (48_calibration.md R300). -/
theorem record_fields (r : CalRecord) : recordVersion r = r.toNat % 256 ∧ recordScaled r = r.toNat / 256 := by
  have := r.isLt
  simp only [recordVersion, recordScaled, BitVec.extractLsb'_toNat, Nat.shiftRight_eq_div_pow]
  omega

/-! ### Register space (20_memory.md) -/

/-- RD reads the block alone: states that hold the same block read alike. -/
theorem readReg_congr {s t : State} (h : s.SameBlock t) (a : Byte) : readReg s a = readReg t a := by
  obtain ⟨h1, h2, h3, h4, h5, h6, h7, h8, h9, h10, h11, h12⟩ := h
  have hmap : regMap Config.block s = regMap Config.block t := by
    simp only [regMap, State.status, State.statusBits, State.blank, State.flagsByte, h1, h2, h3, h4, h5, h6, h7, h8, h9,
      h10, h11, h12]
  simp only [readReg, readRegWith, hmap]

end Sys2Proof.Machine
end

