-- ==== Sys2Proof/Laws/PerInstr.lean ====
section
/-! SUPPORT. Per-instruction families. `MatchesTable`: the word of a command matches its row of spec/opcode_table.json, in
every bit the row's mask fixes (spec/30_encoding.md R93). -/

namespace Sys2Proof.Laws

/-- The row's mask in spec/opcode_table.json. -/
def tableMask : Instr → CommandWord
  | .tick _ => 0xFFFE#16
  | .rd _ => 0xFF00#16
  | .clrf _ => 0xFFC0#16
  | .reset _ => 0xFFFE#16

/-- The row's match in spec/opcode_table.json. -/
def tableMatch : Instr → CommandWord
  | .tick _ => 0x1000#16
  | .rd _ => 0x2000#16
  | .clrf _ => 0x3000#16
  | .reset _ => 0xF000#16

/-- The word of `i` has the bits its row fixes. -/
def MatchesTable.Statement (i : Instr) : Prop := encode i &&& tableMask i = tableMatch i

theorem MatchesTable.tick (s : Bool) : MatchesTable.Statement (.tick s) := by
  cases s <;> rfl

theorem MatchesTable.rd (a : BitVec 8) : MatchesTable.Statement (.rd a) := by
  unfold MatchesTable.Statement
  revert a
  decide

theorem MatchesTable.clrf (m : BitVec 6) : MatchesTable.Statement (.clrf m) := by
  unfold MatchesTable.Statement
  revert m
  decide

theorem MatchesTable.reset (p : Bool) : MatchesTable.Statement (.reset p) := by
  cases p <;> rfl

end Sys2Proof.Laws
end

