-- ==== Sys2Proof/Tests/Slice0.lean ====
section
/-! SUPPORT. The model's own tests: the well-formedness smoke test, words written out from spec/30_encoding.md R93, single
steps checked against the examples of spec/ (each theorem names its rule or its row of spec/95_test_vectors.md), and, for
every statement with hypotheses, a state and operands that meet them. -/

namespace Sys2Proof.Tests

open Sys2Proof.Machine

/-! ### Helpers -/

/-- The outcome is a next state with a property. -/
def completes (o : Host.Outcome State Fault Refusal) (p : State → Bool) : Bool :=
  match o with
  | .next t => p t
  | _ => false

theorem exists_next {o : Host.Outcome State Fault Refusal} {p : State → Bool} (h : completes o p = true) :
    ∃ t, o = .next t ∧ p t = true := by
  cases o with
  | next t => exact ⟨t, rfl, h⟩
  | fault f => simp [completes] at h
  | refused r => simp [completes] at h

/-- A presentation after `cmd_done`. -/
def cmd (w : CommandWord) (cal : CalRecord) : Presentation := ⟨w, cal, customaryAgent w, false⟩

/-- Right after RESET, with words to come. -/
def resetThen (ws : List CommandWord) : State := { State.reset with schedule := ws.map fun w => cmd w 0#40 }

/-- A board whose slot 4 holds 80 and whose other slots hold 0: the next shift brings its peak to the centre. -/
def readyBoard : Scoreboard := ⟨Vector.ofFn fun i => if i.val = 4 then 80#8 else 0#8, 80#8, 4#8⟩

/-- A stream one push of `'M'` short of a frame. -/
def oneShort (m h d y : Nat) (ly : Bool) : Vector Symbol 60 :=
  Vector.ofFn fun i => if i.val = 0 then .missing else (frameStream m h d y ly)[i.val - 1]

/-- A state in SEEK, with a count of detections, a MARKER detection due on the next TICK, and a stream. -/
def seeking (count : Nat) (st : Vector Symbol 60) : State :=
  { State.reset with
    acq := { State.reset.acq with seekCount := BitVec.ofNat 8 count }
    board := { State.reset.board with m := readyBoard }
    stream := st
    frameScore := trunc8 (frameAlignment Config.block st) }

/-- A state in SYNC, with the countdown, the misses, `ACC`, `TSS` and `TSP`. -/
def tracking (peekIn missed : Nat) (acc : Int) (tss tsp : Nat) : State :=
  { State.reset with
    acq := ⟨.sync, 10#8, BitVec.ofNat 8 peekIn, BitVec.ofNat 8 missed, 0#8, BitVec.ofInt 16 acc, BitVec.ofNat 32 tss,
      BitVec.ofNat 32 tsp⟩ }

/-- A state in SYNC on a peek tick that detects `'0'` with offset −2. -/
def trackingHit (missed : Nat) (acc : Int) (tss tsp : Nat) : State :=
  { tracking 1 missed acc tss tsp with
    board := { State.reset.board with z := ⟨Vector.ofFn fun i => if i.val = 6 then 80#8 else 0#8, 80#8, 6#8⟩ } }

/-- The invariant from its clauses, all decided at once on a concrete state. -/
theorem inv_of_checks {s : State}
    (hboards : s.board.z.Holds s.score.z ∧ s.board.o.Holds s.score.o ∧ s.board.m.Holds s.score.m)
    (hacq : s.acq.InRange ∧ s.acq.OffsetBounded)
    (hrest : s.tod.Normal ∧ s.frameScore.toNat = frameAlignment Config.block s.stream ∧ s.clock.InRange ∧ s.error.Consistent
      ∧ s.calStatus.toNat ≤ 2 ∧ s.ports.periodOut = s.clock.period ∧ s.ports.compareOut = s.clock.compare) : s.Inv where
  tod := hrest.1
  boardZ := hboards.1
  boardO := hboards.2.1
  boardM := hboards.2.2
  frameScore := hrest.2.1
  clock := hrest.2.2.1
  acq := hacq.1
  offset := hacq.2
  error := hrest.2.2.2.1
  calStatus := hrest.2.2.2.2.1
  outputs := hrest.2.2.2.2.2

/-! ### Well-formedness: what each check refuses -/

theorem test_reserved_opcode_refused : opcodeLegal (CommandWord.opcode 0x0000#16) = false := by decide
theorem test_reserved_opcode_e_refused : opcodeLegal (CommandWord.opcode 0xE123#16) = false := by decide
theorem test_tick_reserved_bit_refused : operandLegal 0x1002#16 = false := by decide
theorem test_rd_reserved_bit_refused : operandLegal 0x2100#16 = false := by decide
theorem test_clrf_reserved_bit_refused : operandLegal 0x3040#16 = false := by decide
theorem test_reset_reserved_bit_refused : operandLegal 0xF002#16 = false := by decide
theorem test_ill_formed_words_refused :
    CommandWord.wellFormed 0x4000#16 = false ∧ CommandWord.wellFormed 0xF002#16 = false := by decide
theorem test_legal_words_accepted :
    CommandWord.wellFormed 0x1001#16 = true ∧ CommandWord.wellFormed 0x20FF#16 = true
      ∧ CommandWord.wellFormed 0x303F#16 = true ∧ CommandWord.wellFormed 0xF001#16 = true := by decide
theorem test_block_well_formed : Config.block.wellFormed = true := by decide
theorem test_larger_sizes_refused :
    Params.sizesFit { Config.block with templateBits := 81 } = false
      ∧ Params.sizesFit { Config.block with scoreboardLen := 12 } = false
      ∧ Params.sizesFit { Config.block with streamLen := 61 } = false := by decide
theorem test_other_denom_refused : Params.codecDefined { Config.block with denom := 16 } = false := by decide
theorem test_other_parameters_accepted :
    Params.wellFormed
      { Config.block with
        templateBits := 72, scoreboardLen := 9, streamLen := 59, scoreThreshold := 80, seekDetectedThreshold := 0 }
      = true := by decide

/-- Other sizes run (00_scope.md R7): the centre is `SCOREBOARD_LEN div 2`, the oldest slot is slot 8, the newest symbol
stands at `STREAM_LEN - 1`, and a perfect match of 72 bits scores 72. -/
theorem test_other_sizes :
    let c : Params := { Config.block with templateBits := 72, scoreboardLen := 9, streamLen := 59 }
    c.center = 4
      ∧ (shiftSlots c 7#8 (Vector.replicate 11 5#8)).toList = 7#8 :: List.replicate 10 5#8
      ∧ (shiftSlots c 7#8 (Scoreboard.reset.slots)).toList = 7#8 :: List.replicate 10 0#8
      ∧ (pushSymbol c .one (Vector.replicate 60 .missing)).toList = List.replicate 58 .missing ++ [.one, .missing]
      ∧ matchingBits c .O (template c .O) = 72 := by decide +kernel

/-- Assumption log 8: a board of `SCOREBOARD_LEN` = 0 has slot 0 in use, and its peak is that slot's score. -/
theorem test_empty_scoreboard :
    Scoreboard.reset.shift { Config.block with scoreboardLen := 0 } 70#8
      = { Scoreboard.reset with slots := Scoreboard.reset.slots.set 0 70#8, peakV := 70#8 } := by decide +kernel

/-! ### Decoding: words written out from R93 (30_encoding.md) -/

theorem test_decode_tick_high : decode 0b0001000000000001#16 = .ok (.tick true) := by rfl
theorem test_decode_tick_low : decode 0b0001000000000000#16 = .ok (.tick false) := by rfl
theorem test_decode_rd : decode 0b0010000011110100#16 = .ok (.rd 0xF4#8) := by rfl
theorem test_decode_clrf : decode 0b0011000000001000#16 = .ok (.clrf 0x08#6) := by rfl
theorem test_decode_reset : decode 0b1111000000000001#16 = .ok (.reset true) := by rfl
theorem test_decode_reserved_opcode : decode 0b0100000000000000#16 = .error .reservedOpcode := by rfl
theorem test_decode_reserved_operand : decode 0b0010000100000000#16 = .error .reservedOperand := by rfl
theorem test_encode_clrf : encode (.clrf 0x11#6) = 0b0011000000010001#16 := by rfl
theorem test_table_words :
    decodeTableWord 16 0x1000 = some (.tick false) ∧ decodeTableWord 16 0x2000 = some (.rd 0#8)
      ∧ decodeTableWord 16 0x3000 = some (.clrf 0#6) ∧ decodeTableWord 16 0xF000 = some (.reset false) := by decide

/-! ### Single steps against 95_test_vectors.md section 2.10 and the rules' examples -/

/-- R320, example: TICK 1 from reset. -/
theorem test_tick_from_reset :
    completes (step (State.reset.withFetchWord 16 0x1001)) (fun t =>
      t.sr == 1#80 && t.score == ⟨67#8, 41#8, 23#8⟩ && t.board.z.peak == (67#8, 0#8) && t.acq.tss == 1#32
        && t.tod.ticks == 1#8 && t.flags == 0x10#6 && t.clock.period == 33333#16) = true := by decide +kernel

/-- 2.6: the tenth detection enters SYNC. -/
theorem test_tick_tenth_detection :
    completes (exec (.tick false) (seeking 9 State.reset.stream)) (fun t =>
      t.acq == ⟨.sync, 10#8, 60#8, 0#8, 0#8, 0#16, 0#32, 0#32⟩ && t.frameScore == 1#8) = true := by decide +kernel

/-- 49_tick_and_port.md R326, example: the bytes of SCALED. -/
theorem test_rd_scaled :
    (List.map (readReg State.reset) [0x30#8, 0x31#8, 0x32#8, 0x33#8, 0x0F#8, 0xA0#8, 0xE7#8]) =
      [0x54#8, 0x8D#8, 0x20#8, 0x00#8, 0x00#8, 0x03#8, 0xFC#8] := by decide +kernel

/-- 2.10: RD of YEAR, low byte. -/
theorem test_rd_step :
    completes (step (State.reset.withFetchWord 16 0x2008)) (fun t => t.ports.rdata == 0xD0#8) = true := by decide +kernel

/-- R327, example. -/
theorem test_clrf_example :
    completes (exec (.clrf 0x11#6) { State.reset with flags := 0x13#6 }) (fun t => t.flags == 0x02#6) = true := by
  decide +kernel

/-- R301, example, through a step: `RESET cal=01 55 23 08 00`. -/
theorem test_reset_v1_record :
    completes (step { State.reset with schedule := [(AsmLine.resetCal 0x01 0x55 0x23 0x08 0x00).present] }) (fun t =>
      t.clock.scaled == 2133332#32 && t.calStatus == 1#8 && t.clock.period == 33333#16
        && readReg t 0x80#8 == 2#8) = true := by decide +kernel

/-- 70_reset_and_hazards.md R381: a RESET with p = 0 leaves `State.reset`. -/
theorem test_reset_is_the_reset_state :
    completes (step (resetThen [0xF000#16])) (fun t => decide (t = State.reset)) = true := by decide +kernel

/-- 95_test_vectors.md P4: an illegal TICK records cause 2, and a later illegal word does not replace it. -/
theorem test_first_error_kept :
    completes (Host.Core.run Sys2Proof.core 2 (resetThen [0x1002#16, 0x0000#16])) (fun t =>
      t.error == ⟨true, 2#8, 0x1002#16⟩ && t.tod.ticks == 0#8 && t.schedule == []) = true := by decide +kernel

/-! ### Operations against the spec's examples -/

/-- 40_sample_correlator.md R120, example. -/
theorem test_sr_shift : srShift Config.block true 0x80000000000000000001#80 = 0x00000000000000000003#80 := by decide

/-- R127: the row of `T_O`. -/
theorem test_cross_scores :
    (matchingBits Config.block .Z (template Config.block .O), matchingBits Config.block .O (template Config.block .O),
      matchingBits Config.block .M (template Config.block .O)) = (52, 80, 62) := by decide +kernel

/-- 41_scoreboard.md R141, example: the most recent of equal maxima. -/
theorem test_peak_tie : peakOf .lowest 0 [70#8, 80#8, 75#8, 80#8, 0#8] = (80#8, 1) := by decide

/-- The variant tie rule HIGHEST on the same slots. -/
theorem test_peak_tie_highest : peakOf .highest 0 [70#8, 80#8, 75#8, 80#8, 0#8] = (80#8, 3) := by decide

/-- 46_clock_discipline.md R251, example, by both forms. -/
theorem test_muldiv : muldiv 2133332 7999 8000 = 2133065 ∧ muldivBinary 13 2133332 7999 8000 = (2133065, 2668) := by
  decide

/-- R252, example. -/
theorem test_adjust : adjustedScaled Config.block 2133332 15435 15419 = 2134438 := by decide

/-- 2.7: the accumulator is not reset when `FRAC` changes to 38. -/
theorem test_cadence_carries :
    (Clock.mk 2134438#32 60#8 0#16 0#16 |>.cadence Config.block).fracAcc = 34#8
      ∧ (Clock.mk 2134438#32 60#8 0#16 0#16).isLong Config.block = true := by decide

/-- 47_time_of_day.md R281, example: the last minute of a leap year's day 365. -/
theorem test_minute_carry :
    (TimeOfDay.mk 0#8 0#8 59#8 23#8 365#16 2016#16 false false true false).minuteCarry
      = TimeOfDay.mk 0#8 0#8 0#8 0#8 366#16 2016#16 false false true false := by decide

/-- R280: the 61-second minute of a variant that sets IS_LEAP_MINUTE, which the tick that ends it clears. -/
theorem test_leap_minute :
    (TimeOfDay.mk 59#8 59#8 0#8 0#8 1#16 2000#16 false true false false).advance.seconds = 60#8
      ∧ (TimeOfDay.mk 59#8 60#8 0#8 0#8 1#16 2000#16 false true false false).advance
        = TimeOfDay.mk 0#8 0#8 1#8 0#8 1#16 2000#16 false false false false := by decide

/-- 44_frame_decoder.md R205: the 10:35 frame's fields. -/
theorem test_frame_fields :
    frameDigits (frameStream 35 10 152 17 false) = ⟨3, 5, 1, 0, 1, 5, 2, 1, 7, 0⟩ := by decide +kernel

/-- R103: `WAVE Z` is 12 high samples and 48 low. -/
theorem test_wave_zero :
    (Pseudo.expand (.wave .Z)).length = 60 ∧ (Pseudo.expand (.wave .Z)).take 13
      = List.replicate 12 (.tick true) ++ [.tick false] := by decide

/-! ### Witnesses: a state and operands that meet each statement's hypotheses -/

theorem test_witness_inv : (tracking 30 2 7 800 1000).Inv :=
  inv_of_checks (by decide +kernel) (by decide +kernel) (by decide +kernel)

/-- EarlyCommandStops. -/
theorem test_witness_early : step { State.reset with schedule := [⟨0x1000#16, 0#40, .tickSource, true⟩] }
    = .fault .earlyCommand := rfl

/-- ErrorRecordKeptUntilReset, both ways the record changes. -/
theorem test_witness_error_recorded :
    ∃ t, step (resetThen [0x1002#16]) = .next t ∧ decide (t.error ≠ State.reset.error) = true :=
  exists_next (by decide +kernel)

theorem test_witness_error_cleared :
    ∃ t, step { resetThen [0xF000#16] with error := ⟨true, 1#8, 0#16⟩ } = .next t
      ∧ decide (t.error ≠ ⟨true, 1#8, 0#16⟩) = true :=
  exists_next (by decide +kernel)

/-- RegisterSpaceShowsTheWholeBlock: two states with other ports read alike. -/
theorem test_witness_same_registers (a : Byte) :
    readReg State.reset a = readReg { State.reset with ports := (State.reset.emitRdata 7#8).ports } a :=
  readReg_congr ⟨rfl, rfl, rfl, rfl, rfl, rfl, rfl, rfl, rfl, rfl, rfl, rfl⟩ a

/-- ReservedAddressesReadZero, at the ends of every range. -/
theorem test_witness_reserved :
    (∀ r ∈ reservedRanges, readReg State.reset (BitVec.ofNat 8 r.1) = 0#8
      ∧ readReg State.reset (BitVec.ofNat 8 r.2) = 0#8) := by decide +kernel

/-- FlagsFallOnlyByClrfOrReset. -/
theorem test_witness_flag_falls :
    ∃ t, step { resetThen [0x3001#16] with flags := 0x13#6 } = .next t ∧ (!t.flag .validFrame) = true :=
  exists_next (by decide +kernel)

/-- CalibrationLoad, at the bounds: 2.9. -/
theorem test_witness_calibration_bounds :
    calLoad Config.block true 0x1EECAA02#40 = (2026666, 2) ∧ calLoad Config.block true 0x1EECA902#40 = (2133332, 0)
      ∧ calLoad Config.block true 0x222DFE02#40 = (2239998, 2) ∧ calLoad Config.block true 0x222DFF02#40 = (2133332, 0)
      ∧ calLoad Config.block true 0x07BB2B01#40 = (2026668, 1) ∧ calLoad Config.block true 0x088B8001#40 = (2133332, 0)
      ∧ calLoad Config.block true 0x208D5403#40 = (2133332, 0) ∧ calLoad Config.block false 0x1EECAA02#40 = (2133332, 0) := by
  decide

/-- CalibrationRoundTrip: the state read and the state reset. -/
theorem test_witness_round_trip :
    ({ State.reset with ports := { State.reset.ports with calIn := 0x00208D5402#40 } } : State).ports.calIn.toNat
      = readField (tracking 30 2 7 800 1000) 0x80#8 5 := by decide +kernel

/-- The statements about a TICK that answers a next state. -/
theorem test_witness_tick_next :
    ∃ t, exec (.tick true) State.reset = .next t
      ∧ (State.reset.acceptsFrame true == false && State.reset.pushes true == none) = true :=
  exists_next (p := fun _ => State.reset.acceptsFrame true == false && State.reset.pushes true == none)
    (by decide +kernel)

/-- IncrementalPeakAgrees, where the maximum stays and where it is evicted. -/
theorem test_witness_peak_cached :
    readyBoard.PeakCached
      ∧ Scoreboard.PeakCached ⟨Vector.ofFn fun i => if i.val = 10 then 80#8 else 0#8, 80#8, 10#8⟩ := by
  constructor <;> decide +kernel

/-- IsolatedPeakPassesTheCentreOnce. -/
theorem test_witness_isolated_peak :
    ((Scoreboard.reset.shiftAll Config.block (List.replicate 10 3#8 ++ 70#8 :: List.replicate 5 69#8)).aligned Config.block = true) := by
  decide +kernel

/-- TickPushesAndScoresTheStream and AcceptedFrameLoadsTheTime, mid-day and at the end of the year (2.5). -/
theorem test_witness_accepted_frame :
    ∃ t, exec (.tick false) (seeking 3 (oneShort 35 10 152 17 false)) = .next t
      ∧ ((seeking 3 (oneShort 35 10 152 17 false)).acceptsFrame false
        && t.tod == ⟨15#8, 0#8, 36#8, 10#8, 152#16, 2017#16, false, false, false, true⟩) = true :=
  exists_next (p := fun t => (seeking 3 (oneShort 35 10 152 17 false)).acceptsFrame false
    && t.tod == ⟨15#8, 0#8, 36#8, 10#8, 152#16, 2017#16, false, false, false, true⟩) (by decide +kernel)

theorem test_witness_accepted_last_day :
    ∃ t, exec (.tick false) (seeking 3 (oneShort 59 23 366 16 true)) = .next t
      ∧ ((seeking 3 (oneShort 59 23 366 16 true)).acceptsFrame false
        && t.tod == ⟨15#8, 0#8, 0#8, 0#8, 1#16, 2017#16, false, false, false, true⟩) = true :=
  exists_next (p := fun t => (seeking 3 (oneShort 59 23 366 16 true)).acceptsFrame false
    && t.tod == ⟨15#8, 0#8, 0#8, 0#8, 1#16, 2017#16, false, false, false, true⟩) (by decide +kernel)

theorem test_witness_accepted_day_carry :
    ∃ t, exec (.tick false) (seeking 3 (oneShort 59 23 365 16 true)) = .next t
      ∧ ((seeking 3 (oneShort 59 23 365 16 true)).acceptsFrame false && t.tod.day == 366#16) = true :=
  exists_next (p := fun t => (seeking 3 (oneShort 59 23 365 16 true)).acceptsFrame false && t.tod.day == 366#16)
    (by decide +kernel)

/-- FrameFieldsReadBack, the range check on a digit above 9: minutes units 12 (2.5). -/
theorem test_witness_digit_above_nine :
    (frameDigits (Vector.ofFn fun i => if i.val = 5 ∨ i.val = 6 then Symbol.one
        else (frameStream 30 10 152 17 false)[i])).inRange = false
      ∧ (frameDigits (frameStream 39 10 152 17 false)).inRange = true := by decide +kernel

/-- RejectedFrameLoadsNothing: day 366 of a common year (2.5). -/
theorem test_witness_rejected_frame :
    ∃ t, exec (.tick false) (seeking 3 (oneShort 59 23 366 17 false)) = .next t
      ∧ ((seeking 3 (oneShort 59 23 366 17 false)).completesFrame false
        && !(seeking 3 (oneShort 59 23 366 17 false)).acceptsFrame false && t.decRej && t.tod.ticks == 1#8) = true :=
  exists_next (p := fun t => (seeking 3 (oneShort 59 23 366 17 false)).completesFrame false
    && !(seeking 3 (oneShort 59 23 366 17 false)).acceptsFrame false && t.decRej && t.tod.ticks == 1#8) (by decide +kernel)

/-- TickInSeek: a detection below and at the threshold, and none. -/
theorem test_witness_seek :
    (seeking 8 State.reset.stream).acq.mode = .seek ∧ (seeking 8 State.reset.stream).pushes false = some .marker
      ∧ (seeking 9 State.reset.stream).pushes false = some .marker ∧ State.reset.pushes true = none := by decide +kernel

/-- TickInSyncWithoutAPeek. -/
theorem test_witness_sync_without_peek :
    (tracking 30 2 7 800 1000).Inv ∧ (tracking 30 2 7 800 1000).acq.mode = .sync
      ∧ 1 < (tracking 30 2 7 800 1000).acq.peekIn.toNat :=
  ⟨test_witness_inv, rfl, by decide⟩

/-- PeekWithADetection. -/
theorem test_witness_peek_detection :
    (trackingHit 3 3 500 100).Inv ∧ (trackingHit 3 3 500 100).acq.mode = .sync
      ∧ (trackingHit 3 3 500 100).acq.peekIn.toNat = 1
      ∧ detectSync Config.block ((trackingHit 3 3 500 100).takeSample Config.block false).board = some (.zero, -2) :=
  ⟨inv_of_checks (by decide +kernel) (by decide +kernel) (by decide +kernel), rfl, rfl,
    by decide +kernel⟩

/-- PeekWithAMiss, the fifth miss and the sixth. -/
theorem test_witness_peek_miss :
    (tracking 1 5 7 800 1000).Inv ∧ (tracking 1 4 7 800 1000).Inv
      ∧ detectSync Config.block ((tracking 1 5 7 800 1000).takeSample Config.block false).board = none
      ∧ detectSync Config.block ((tracking 1 4 7 800 1000).takeSample Config.block false).board = none :=
  ⟨inv_of_checks (by decide +kernel) (by decide +kernel) (by decide +kernel),
    inv_of_checks (by decide +kernel) (by decide +kernel) (by decide +kernel),
    by decide +kernel, by decide +kernel⟩

/-- DisciplineInSync and PersistenceRequestInSync: a state in which both fire (2.6: ACC 16, TSS 1001). -/
theorem test_witness_discipline :
    (tracking 30 0 16 1000 499999).Inv
      ∧ completes (exec (.tick false) (tracking 30 0 16 1000 499999)) (fun t =>
        t.clock.scaled == 2150658#32 && t.acq.acc == 0#16 && t.acq.tss == 0#32 && t.acq.tsp == 0#32
          && t.flag .tickIntervalChanged && t.flag .paramsUnsaved) = true :=
  ⟨inv_of_checks (by decide +kernel) (by decide +kernel) (by decide +kernel), by decide +kernel⟩

/-- The same one tick earlier: neither fires (2.6: ACC 16, TSS 1000). -/
theorem test_witness_no_discipline :
    (tracking 30 0 16 999 499998).Inv
      ∧ completes (exec (.tick false) (tracking 30 0 16 999 499998)) (fun t =>
        t.clock.scaled == 2133332#32 && t.acq.acc == 16#16 && t.acq.tss == 1000#32 && t.acq.tsp == 499999#32) = true :=
  ⟨inv_of_checks (by decide +kernel) (by decide +kernel) (by decide +kernel), by decide +kernel⟩

theorem test_witness_seeking_inv : (seeking 9 State.reset.stream).Inv :=
  inv_of_checks (by decide +kernel) (by decide +kernel) (by decide +kernel)

/-- ModeChangesOnlyAtItsThresholds, from SYNC (test_witness_peek_miss gives its invariant) and from SEEK. -/
theorem test_witness_mode_changes :
    completes (step ((tracking 1 5 7 800 1000).presentNext 0x1000#16)) (fun t => t.acq.mode == .seek) = true
      ∧ completes (step ((seeking 9 State.reset.stream).presentNext 0x1000#16)) (fun t => t.acq.mode == .sync) = true := by
  decide +kernel

/-- DisciplineInSync and PersistenceRequestInSync on a peek at MISSED 5 that detects: it stays in SYNC, the offset −2
counts before the check, and both checks fire (45_acquisition.md R223, R224; |ACC| 14 and −2 give 16). -/
theorem test_witness_discipline_on_detecting_peek :
    (trackingHit 5 (-14) 1000 499999).Inv
      ∧ detectSync Config.block ((trackingHit 5 (-14) 1000 499999).takeSample Config.block false).board ≠ none
      ∧ completes (exec (.tick false) (trackingHit 5 (-14) 1000 499999)) (fun t =>
        t.acq == ⟨.sync, 10#8, 58#8, 0#8, BitVec.ofInt 8 (-2), 0#16, 0#32, 0#32⟩
          && t.clock.scaled == BitVec.ofNat 32 ((2133332 * 1001 / 1017 + 2133332) / 2)
          && t.flag .tickIntervalChanged && t.flag .paramsUnsaved) = true :=
  ⟨inv_of_checks (by decide +kernel) (by decide +kernel) (by decide +kernel), by decide +kernel, by decide +kernel⟩

/-- TickInSeek: no check runs in SEEK, however late TSP is (2.6: SEEK, TSP 600000). -/
theorem test_witness_seek_runs_no_check :
    completes (exec (.tick true) { State.reset with acq := { State.reset.acq with tsp := 600000#32 } }) (fun t =>
      t.acq.tsp == 600001#32 && !t.flag .paramsUnsaved && !t.flag .tickIntervalChanged) = true := by decide +kernel

/-- TickAdvancesTheTimeOfDay, at a year's end: 2.8. -/
theorem test_witness_year_end :
    ∃ t, exec (.tick false)
        { State.reset with tod := ⟨59#8, 59#8, 59#8, 23#8, 365#16, 2023#16, false, false, false, false⟩ } = .next t
      ∧ (t.tod == ⟨0#8, 0#8, 0#8, 0#8, 1#16, 2024#16, false, false, true, false⟩ && t.flags == 0x16#6) = true :=
  exists_next (p := fun t => t.tod == ⟨0#8, 0#8, 0#8, 0#8, 1#16, 2024#16, false, false, true, false⟩
    && t.flags == 0x16#6) (by decide +kernel)

/-- FixChangesOnlyByAFrameOrReset, set and cleared. -/
theorem test_witness_fix_changes :
    completes (step ((seeking 3 (oneShort 35 10 152 17 false)).presentNext 0x1000#16)) (fun t => t.tod.hasFix) = true
      ∧ completes (step { resetThen [0xF000#16] with tod := { State.reset.tod with hasFix := true } })
          (fun t => !t.tod.hasFix) = true := by decide +kernel

/-- ConsumerCannotInfluenceTicks: two states with other flags. -/
theorem test_witness_consumer :
    Machine.State.SameBlock { State.reset with flags := 0x3F#6, error := State.reset.error }
      { State.reset with flags := 0x3F#6, ports := (State.reset.emitRdata 9#8).ports } :=
  ⟨rfl, rfl, rfl, rfl, rfl, rfl, rfl, rfl, rfl, rfl, rfl, rfl⟩

/-- RunsNeverStop: a schedule that keeps the handshake. -/
theorem test_witness_handshake : (resetThen [0x1001#16, 0x2000#16]).HandshakeKept := by decide

end Sys2Proof.Tests
end

/-! ## Proofs of the family 10_state.md -/

/-! ### The tick chain, and what each command writes -/

section
namespace Sys2Proof.Machine

/-- The part of the state that the tick chain computes with (10_state.md R45, 60_exceptions.md R360): every field of the
block but the flags and the error registers, with those two, the ports and the schedule set to fixed values. Two states
have the same `chain` exactly when they agree on all the other fields (`State.chain_eq_iff`). -/
def State.chain (s : State) : State :=
  { s with flags := 0#6, error := State.reset.error, ports := State.reset.ports, schedule := [] }

/-- Equal chains are equal fields, the flags and the error registers aside. -/
theorem State.chain_eq_iff {s t : State} :
    s.chain = t.chain ↔ State.SameBlock { s with flags := t.flags, error := t.error } t := by
  simp [State.chain]

/-! Taking a command, ending it, and what the consumer does leave the chain as it is. -/

@[simp] theorem State.chain_accept (p : Presentation) (rest : List Presentation) (s : State) :
    (s.accept p rest).chain = s.chain := rfl

@[simp] theorem State.chain_idle (s : State) : s.idle.chain = s.chain := rfl

@[simp] theorem State.chain_complete (s : State) : s.complete.chain = s.chain := rfl

@[simp] theorem State.chain_emitRdata (v : Byte) (s : State) : (s.emitRdata v).chain = s.chain := rfl

@[simp] theorem State.chain_clearFlags (m : BitVec 6) (s : State) : (s.clearFlags m).chain = s.chain := rfl

@[simp] theorem State.chain_raiseIllegal (k : IllegalCause) (w : CommandWord) (s : State) :
    (s.raiseIllegal k w).chain = s.chain := rfl

@[simp] theorem State.chain_raiseFlag (f : Flag) (s : State) : (s.raiseFlag f).chain = s.chain := rfl

@[simp] theorem State.chain_raiseFlagIf (b : Bool) (f : Flag) (s : State) : (s.raiseFlagIf b f).chain = s.chain := by
  cases b <;> rfl

/-! What steps 6 to 8 of TICK leave in each field. -/

@[simp] theorem State.finishTick_sr (c : Params) (s : State) : (s.finishTick c).sr = s.sr := by
  rw [State.finishTick_eq]

@[simp] theorem State.finishTick_score (c : Params) (s : State) : (s.finishTick c).score = s.score := by
  rw [State.finishTick_eq]

@[simp] theorem State.finishTick_board (c : Params) (s : State) : (s.finishTick c).board = s.board := by
  rw [State.finishTick_eq]

@[simp] theorem State.finishTick_stream (c : Params) (s : State) : (s.finishTick c).stream = s.stream := by
  rw [State.finishTick_eq]

@[simp] theorem State.finishTick_frameScore (c : Params) (s : State) :
    (s.finishTick c).frameScore = s.frameScore := by
  rw [State.finishTick_eq]

@[simp] theorem State.finishTick_acq (c : Params) (s : State) : (s.finishTick c).acq = s.acq := by
  rw [State.finishTick_eq]

@[simp] theorem State.finishTick_clock (c : Params) (s : State) :
    (s.finishTick c).clock = s.clock.cadence c := by
  rw [State.finishTick_eq]

@[simp] theorem State.finishTick_tod (c : Params) (s : State) : (s.finishTick c).tod = s.tod.advance := by
  rw [State.finishTick_eq]

@[simp] theorem State.finishTick_decRej (c : Params) (s : State) : (s.finishTick c).decRej = s.decRej := by
  rw [State.finishTick_eq]

@[simp] theorem State.finishTick_error (c : Params) (s : State) : (s.finishTick c).error = s.error := by
  rw [State.finishTick_eq]

@[simp] theorem State.finishTick_calStatus (c : Params) (s : State) :
    (s.finishTick c).calStatus = s.calStatus := by
  rw [State.finishTick_eq]

@[simp] theorem State.finishTick_ports (c : Params) (s : State) :
    (s.finishTick c).ports =
      { s.ports with periodOut := (s.clock.cadence c).period, compareOut := (s.clock.cadence c).compare } := by
  rw [State.finishTick_eq]

@[simp] theorem State.finishTick_schedule (c : Params) (s : State) : (s.finishTick c).schedule = s.schedule := by
  rw [State.finishTick_eq]

/-- The discipline check writes the clock, the acquisition state and the flags, and nothing else. -/
theorem State.disciplineCheck_eq {c : Params} {s t : State} (h : s.disciplineCheck c = .ok t) :
    t = { s with clock := t.clock, acq := t.acq, flags := t.flags } := by
  obtain ⟨-, rfl⟩ | ⟨-, -, -, ht⟩ := State.disciplineCheck_cases h
  · rfl
  · rw [ht]

/-- The persistence check writes the acquisition state and the flags, and nothing else. -/
theorem State.persistCheck_eq (c : Params) (s : State) :
    s.persistCheck c = { s with acq := (s.persistCheck c).acq, flags := (s.persistCheck c).flags } := by
  obtain ⟨-, h⟩ | ⟨-, h⟩ := s.persistCheck_cases c <;> rw [h]

/-- The countdown of a SYNC tick pushes at most one symbol and writes the acquisition state. -/
theorem State.countDown_keeps {c : Params} {P : State → Prop}
    (hpush : ∀ u sym, P u → P (u.ssShift c sym))
    (hacq : ∀ (u : State) a, P u → P { u with acq := a }) {s : State} (hs : P s) : P (s.countDown c) := by
  obtain ⟨-, h⟩ | ⟨-, sym, off, -, h⟩ | ⟨-, -, h⟩ := s.countDown_cases c <;> rw [h]
  · exact hacq _ _ hs
  · exact hacq _ _ (hpush _ _ hs)
  · exact hacq _ _ (hpush _ _ hs)

/-- What step 5 of TICK is made of (45_acquisition.md R220): pushes into the stream, writes of the acquisition state and
the two checks. A property that each of them keeps is kept by step 5. -/
theorem State.acquisitionTick_keeps {c : Params} {P : State → Prop}
    (hpush : ∀ u sym, P u → P (u.ssShift c sym))
    (hacq : ∀ (u : State) a, P u → P { u with acq := a })
    (hdiscipline : ∀ u v, u.disciplineCheck c = .ok v → P u → P v)
    (hpersist : ∀ u, P u → P (u.persistCheck c))
    {s t : State} (h : s.acquisitionTick c = .ok t) (hs : P s) : P t := by
  obtain ⟨-, rfl⟩ | ⟨-, h⟩ := State.acquisitionTick_cases h
  · obtain ⟨-, h⟩ | ⟨sym, -, h⟩ := s.seekTick_cases c <;> rw [h]
    · exact hs
    · exact hacq _ _ (hpush _ _ hs)
  · have hdown := State.countDown_keeps hpush hacq hs
    obtain ⟨-, rfl⟩ | ⟨-, u, hu, rfl⟩ := State.syncTick_cases h
    · exact hdown
    · exact hpersist u (hdiscipline _ u hu hdown)

/-- What TICK never writes (49_tick_and_port.md R320): the error registers, CAL_STATUS and the schedule. -/
theorem exec_tick_frame {b : Bool} {s t : State} (h : exec (.tick b) s = .next t) :
    t.error = s.error ∧ t.calStatus = s.calStatus ∧ t.schedule = s.schedule := by
  obtain ⟨mid, hmid, rfl⟩ := exec_tick_next_iff.mp h
  obtain ⟨-, -, -, herror, hcal, -, hschedule⟩ := State.acquisitionTick_frame hmid
  simp [herror, hcal, hschedule]

/-! ### The error registers (10_state.md R37) -/

/-- RESET clears the error registers (70_reset_and_hazards.md R381). -/
@[simp] theorem State.resetBlock_error (c : Params) (p : Bool) (s : State) :
    (s.resetBlock c p).error = ⟨false, 0#8, 0#16⟩ := rfl

theorem exec_reset_error {p : Bool} {s t : State} (h : exec (.reset p) s = .next t) :
    t.error = ⟨false, 0#8, 0#16⟩ := by
  rw [exec_reset] at h
  cases h
  exact s.resetBlock_error Config.block p

/-- A legal command leaves the error registers, or is RESET and clears them. -/
theorem exec_error {i : Instr} {s t : State} (h : exec i s = .next t) :
    t.error = s.error ∨ (∃ p, i = .reset p) ∧ t.error = ⟨false, 0#8, 0#16⟩ := by
  cases i with
  | tick b => exact .inl (exec_tick_frame h).1
  | rd a => rw [exec_rd] at h; cases h; exact .inl rfl
  | clrf m => rw [exec_clrf] at h; cases h; exact .inl rfl
  | reset p => exact .inr ⟨⟨p, rfl⟩, exec_reset_error h⟩

/-- An error already recorded is kept (60_exceptions.md R350). -/
theorem ErrorRecord.record_of_err {e : ErrorRecord} (he : e.err = true) (k : IllegalCause) (w : CommandWord) :
    e.record k w = e := by
  simp [ErrorRecord.record, he]

/-- The first error is recorded with its cause and its word (60_exceptions.md R350). -/
theorem ErrorRecord.record_of_not_err {e : ErrorRecord} (he : e.err = false) (k : IllegalCause) (w : CommandWord) :
    e.record k w = ⟨true, k.code, w⟩ := by
  simp [ErrorRecord.record, he]

/-- Settles O6: of the step's outcomes only RESET and an illegal word write the error registers (`exec_error`), and the
illegal word does so only when no error is recorded. -/
theorem errorRecordKeptUntilReset : Obligations.ErrorRecordKeptUntilReset := by
  intro s t h
  obtain ⟨hs, rfl⟩ | ⟨p, rest, hs, -, hx⟩ := step_cases h
  · exact ⟨fun hne => absurd rfl hne, by simp [hs]⟩
  · rw [hs]
    obtain ⟨i, hi, hx⟩ | ⟨k, hk, rfl⟩ := execute_cases hx
    · refine ⟨fun hne => ?_, ?_⟩
      · obtain hkept | ⟨⟨b, rfl⟩, -⟩ := exec_error hx
        · exact absurd hkept hne
        · exact ⟨p, rest, rfl, .inl ⟨b, hi⟩⟩
      · rintro p' rest' ⟨⟩
        refine ⟨fun b hb => ?_, fun k hk => by simp [hi] at hk⟩
        obtain rfl : i = .reset b := by simpa [hi] using hb
        exact exec_reset_error hx
    · cases he : s.error.err with
      | true =>
        refine ⟨fun hne => absurd (ErrorRecord.record_of_err he k p.word) hne, ?_⟩
        simp [hk]
      | false =>
        refine ⟨fun _ => ⟨p, rest, rfl, .inr ⟨rfl, k, hk⟩⟩, ?_⟩
        rintro p' rest' ⟨⟩
        refine ⟨fun b hb => by simp [hk] at hb, fun k' hk' _ => ?_⟩
        obtain rfl : k = k' := by simpa [hk] using hk'
        exact ErrorRecord.record_of_not_err he k p.word

/-! ### The edge flags (10_state.md R43) -/

/-- Every flag that is true in `s` is true in `t`. -/
def State.FlagsKept (s t : State) : Prop := ∀ f, s.flag f = true → t.flag f = true

theorem State.FlagsKept.trans {s t u : State} (hst : s.FlagsKept t) (htu : t.FlagsKept u) : s.FlagsKept u :=
  fun f hf => htu f (hst f hf)

/-- Equal FLAGS keep every flag. -/
theorem State.flagsKept_of_eq {s t : State} (h : t.flags = s.flags) : s.FlagsKept t :=
  fun f hf => (State.flag_congr h f).trans hf

/-- Setting bits of FLAGS keeps every flag. -/
theorem State.flagsKept_of_or {s t : State} {m : BitVec 6} (h : t.flags = s.flags ||| m) : s.FlagsKept t := by
  intro f hf
  rw [State.flag] at hf ⊢
  simp [h, hf]

theorem State.flagsKept_ssShift (c : Params) (sym : Symbol) (s : State) : s.FlagsKept (s.ssShift c sym) := by
  obtain ⟨-, h⟩ | ⟨-, -, h⟩ | ⟨-, -, h⟩ := s.ssShift_cases c sym
  · exact State.flagsKept_of_eq (by rw [h])
  · exact State.flagsKept_of_or (m := Flag.validFrame.mask) (by rw [h])
  · exact State.flagsKept_of_or (m := Flag.validFrame.mask) (by rw [h])

theorem State.flagsKept_disciplineCheck {c : Params} {s t : State} (h : s.disciplineCheck c = .ok t) :
    s.FlagsKept t := by
  obtain ⟨-, rfl⟩ | ⟨-, -, -, ht⟩ := State.disciplineCheck_cases h
  · exact State.flagsKept_of_eq rfl
  · by_cases hc : t.clock.scaled = s.clock.scaled
    · exact State.flagsKept_of_eq (by rw [ht]; simp [hc])
    · exact State.flagsKept_of_or (m := Flag.tickIntervalChanged.mask) (by rw [ht]; simp [hc])

theorem State.flagsKept_persistCheck (c : Params) (s : State) : s.FlagsKept (s.persistCheck c) := by
  obtain ⟨-, h⟩ | ⟨-, h⟩ := s.persistCheck_cases c
  · exact State.flagsKept_of_eq (by rw [h])
  · exact State.flagsKept_of_or (m := Flag.paramsUnsaved.mask) (by rw [h])

/-- Step 5 of TICK clears no flag. -/
theorem State.flagsKept_acquisitionTick {c : Params} {s t : State} (h : s.acquisitionTick c = .ok t) :
    s.FlagsKept t :=
  State.acquisitionTick_keeps (P := fun u => s.FlagsKept u)
    (fun u sym hu => hu.trans (u.flagsKept_ssShift c sym))
    (fun _ _ hu => hu.trans (State.flagsKept_of_eq rfl))
    (fun _ _ hd hu => hu.trans (State.flagsKept_disciplineCheck hd))
    (fun u hu => hu.trans (u.flagsKept_persistCheck c)) h (State.flagsKept_of_eq rfl)

/-- TICK clears no flag (49_tick_and_port.md R320). -/
theorem exec_tick_flagsKept {b : Bool} {s t : State} (h : exec (.tick b) s = .next t) : s.FlagsKept t := by
  obtain ⟨mid, hmid, rfl⟩ := exec_tick_next_iff.mp h
  have hfinish : mid.FlagsKept (mid.finishTick Config.block) := fun f hf => by simp [State.flag_finishTick, hf]
  have hsample : s.FlagsKept (s.takeSample Config.block b) := State.flagsKept_of_eq rfl
  exact (hsample.trans (State.flagsKept_acquisitionTick hmid)).trans hfinish

/-- A legal command that clears a flag is a CLRF whose mask selects it, or RESET. -/
theorem exec_flag_falls {i : Instr} {s t : State} {f : Flag} (h : exec i s = .next t) (hs : s.flag f = true)
    (ht : t.flag f = false) : (∃ m, i = .clrf m ∧ m.getLsbD f.index = true) ∨ ∃ p, i = .reset p := by
  cases i with
  | tick b => simp [exec_tick_flagsKept h f hs] at ht
  | rd a =>
    rw [exec_rd] at h
    cases h
    exact absurd (hs.symm.trans ht) (by decide)
  | clrf m =>
    rw [exec_clrf] at h
    cases h
    have hclear : (s.clearFlags m).flag f = false := ht
    exact .inl ⟨m, rfl, by simpa [State.flag_clearFlags, hs] using hclear⟩
  | reset p => exact .inr ⟨p, rfl⟩

/-- Settles O19: an idle step and an illegal word leave FLAGS, and of the legal commands `exec_flag_falls` says which
clear a flag. -/
theorem flagsFallOnlyByClrfOrReset : Obligations.FlagsFallOnlyByClrfOrReset := by
  intro s t f h hs ht
  obtain ⟨-, rfl⟩ | ⟨p, rest, hp, -, hx⟩ := step_cases h
  · exact absurd (hs.symm.trans ht) (by decide)
  · refine ⟨p, rest, hp, ?_⟩
    obtain ⟨i, hi, hx⟩ | ⟨k, -, rfl⟩ := execute_cases hx
    · obtain ⟨m, rfl, hm⟩ | ⟨b, rfl⟩ := exec_flag_falls hx hs ht
      · exact .inl ⟨m, hi, hm⟩
      · exact .inr ⟨b, hi⟩
    · exact absurd (hs.symm.trans ht) (by decide)

end Sys2Proof.Machine
end

/-! ### The tick chain computes with nothing else (10_state.md R45, 60_exceptions.md R360)

Each operation of TICK, run on two states with the same `chain`, leaves states with the same `chain`. -/

section
namespace Sys2Proof.Machine

/-! The fields that the steps of TICK read are fields of the chain. -/

theorem State.board_of_chain {s t : State} (h : s.chain = t.chain) : s.board = t.board :=
  (congrArg State.board h :)

theorem State.stream_of_chain {s t : State} (h : s.chain = t.chain) : s.stream = t.stream :=
  (congrArg State.stream h :)

theorem State.acq_of_chain {s t : State} (h : s.chain = t.chain) : s.acq = t.acq :=
  (congrArg State.acq h :)

theorem State.clock_of_chain {s t : State} (h : s.chain = t.chain) : s.clock = t.clock :=
  (congrArg State.clock h :)

/-- Writing the acquisition state into equal chains leaves equal chains. -/
theorem State.chain_with_acq {s t : State} {a a' : Acquisition} (h : s.chain = t.chain) (ha : a = a') :
    { s with acq := a }.chain = { t with acq := a' }.chain := by
  subst ha
  exact congrArg (fun u : State => { u with acq := a }) h

/-- Writing the acquisition state and the clock into equal chains leaves equal chains. -/
theorem State.chain_with_acq_clock {s t : State} (h : s.chain = t.chain) (a : Acquisition) (k : Clock) :
    { s with acq := a, clock := k }.chain = { t with acq := a, clock := k }.chain :=
  congrArg (fun u : State => { u with acq := a, clock := k }) h

/-- Steps 2 to 4 of TICK. -/
theorem State.chain_takeSample_congr {s t : State} (h : s.chain = t.chain) (c : Params) (b : Bool) :
    (s.takeSample c b).chain = (t.takeSample c b).chain :=
  (congrArg (fun u : State => (u.takeSample c b).chain) h :)

/-- Steps 6 to 8 of TICK. -/
theorem State.chain_finishTick_congr {s t : State} (h : s.chain = t.chain) (c : Params) :
    (s.finishTick c).chain = (t.finishTick c).chain := by
  rw [State.finishTick_eq c s, State.finishTick_eq c t]
  exact congrArg (fun u : State => { u with tod := u.tod.advance, clock := u.clock.cadence c }) h

/-- A push into the stream is the same push into the chain. -/
theorem State.chain_ssShift (c : Params) (sym : Symbol) (s : State) :
    (s.ssShift c sym).chain = (s.chain.ssShift c sym).chain := by
  by_cases h : frameAlignment c (pushSymbol c sym s.stream) = 60
  · cases hr : (frameDigits (pushSymbol c sym s.stream)).inRange <;>
      simp [State.ssShift, State.frameScoreUpdate, State.frameDecode, State.chain, State.raiseFlag, h, hr]
  · simp [State.ssShift, State.frameScoreUpdate, State.chain, h]

theorem State.chain_ssShift_congr {s t : State} (h : s.chain = t.chain) (c : Params) (sym : Symbol) :
    (s.ssShift c sym).chain = (t.ssShift c sym).chain := by
  rw [State.chain_ssShift, h, ← State.chain_ssShift]

theorem State.chain_seekTick_congr {s t : State} (h : s.chain = t.chain) (c : Params) :
    (s.seekTick c).chain = (t.seekTick c).chain := by
  have hboard := State.board_of_chain h
  have hacq := State.acq_of_chain h
  unfold State.seekTick
  rw [hboard]
  cases detectSeek c t.board with
  | none => exact h
  | some sym => exact State.chain_with_acq (State.chain_ssShift_congr h c sym) (by simp [hacq])

theorem State.chain_peek_congr {s t : State} (h : s.chain = t.chain) (c : Params) :
    (s.peek c).chain = (t.peek c).chain := by
  have hboard := State.board_of_chain h
  have hacq := State.acq_of_chain h
  unfold State.peek
  rw [hboard]
  cases detectSync c t.board with
  | none => exact State.chain_with_acq (State.chain_ssShift_congr h c .missing) (by simp [hacq])
  | some p => exact State.chain_with_acq (State.chain_ssShift_congr h c p.1) (by simp [hacq])

theorem State.chain_countDown_congr {s t : State} (h : s.chain = t.chain) (c : Params) :
    (s.countDown c).chain = (t.countDown c).chain := by
  have hacq := State.acq_of_chain h
  have hdown := State.chain_with_acq (a := { s.acq with peekIn := s.acq.peekIn - 1#8 })
    (a' := { t.acq with peekIn := t.acq.peekIn - 1#8 }) h (by rw [hacq])
  unfold State.countDown
  by_cases hz : t.acq.peekIn - 1#8 = 0#8
  · simpa only [hacq, hz, if_true] using State.chain_peek_congr hdown c
  · simpa only [hacq, hz, if_false] using hdown

/-- Whether the adjust is due, and what it writes, is read from the chain. -/
theorem State.disciplineCheck_congr {c : Params} {s s' t : State} (hs : s.chain = s'.chain)
    (h : s.disciplineCheck c = .ok t) : ∃ t', s'.disciplineCheck c = .ok t' ∧ t.chain = t'.chain := by
  have hacq := State.acq_of_chain hs
  have hclock := State.clock_of_chain hs
  obtain ⟨hdue, rfl⟩ | ⟨hdue, hpos, hk, ht⟩ := State.disciplineCheck_cases h
  · rw [hacq] at hdue
    exact ⟨s', by simp [State.disciplineCheck, hdue], hs⟩
  · rw [hacq] at hdue hpos
    obtain ⟨t', ht'⟩ := State.disciplineCheck_isOk (s := s') fun _ => hpos
    obtain ⟨hdue', -⟩ | ⟨-, -, hk', ht''⟩ := State.disciplineCheck_cases ht'
    · exact absurd (hdue.symm.trans hdue') (by decide)
    · refine ⟨t', ht', ?_⟩
      have hkk : t.clock = t'.clock := by rw [hk, hk', hacq, hclock]
      rw [ht, ht'', hkk, hacq]
      exact State.chain_with_acq_clock hs _ _

theorem State.chain_persistCheck_congr {s t : State} (h : s.chain = t.chain) (c : Params) :
    (s.persistCheck c).chain = (t.persistCheck c).chain := by
  have hacq := State.acq_of_chain h
  unfold State.persistCheck
  rw [hacq]
  split
  · simpa only [State.chain_raiseFlag] using State.chain_with_acq h rfl
  · exact h

theorem State.syncTick_congr {c : Params} {s s' t : State} (hs : s.chain = s'.chain) (h : s.syncTick c = .ok t) :
    ∃ t', s'.syncTick c = .ok t' ∧ t.chain = t'.chain := by
  have hdown := State.chain_countDown_congr hs c
  have hacq := State.acq_of_chain hdown
  obtain ⟨hm, rfl⟩ | ⟨hm, u, hu, rfl⟩ := State.syncTick_cases h
  · rw [hacq] at hm
    exact ⟨s'.countDown c, by simp [State.syncTick, hm], hdown⟩
  · rw [hacq] at hm
    obtain ⟨u', hu', huu⟩ := State.disciplineCheck_congr hdown hu
    exact ⟨u'.persistCheck c, by simp [State.syncTick, hm, hu'], State.chain_persistCheck_congr huu c⟩

/-- Step 5 of TICK. -/
theorem State.acquisitionTick_congr {c : Params} {s s' t : State} (hs : s.chain = s'.chain)
    (h : s.acquisitionTick c = .ok t) : ∃ t', s'.acquisitionTick c = .ok t' ∧ t.chain = t'.chain := by
  have hacq := State.acq_of_chain hs
  obtain ⟨hm, rfl⟩ | ⟨hm, h⟩ := State.acquisitionTick_cases h
  · rw [hacq] at hm
    exact ⟨s'.seekTick c, by simp [State.acquisitionTick, hm], State.chain_seekTick_congr hs c⟩
  · rw [hacq] at hm
    obtain ⟨t', ht', htt⟩ := State.syncTick_congr hs h
    exact ⟨t', by simp [State.acquisitionTick, hm, ht'], htt⟩

/-- TICK carries states with the same chain to states with the same chain. -/
theorem exec_tick_congr {b : Bool} {s s' t : State} (hs : s.chain = s'.chain) (h : exec (.tick b) s = .next t) :
    ∃ t', exec (.tick b) s' = .next t' ∧ t.chain = t'.chain := by
  obtain ⟨mid, hmid, rfl⟩ := exec_tick_next_iff.mp h
  obtain ⟨mid', hmid', hmm⟩ :=
    State.acquisitionTick_congr (State.chain_takeSample_congr hs Config.block b) hmid
  refine ⟨(mid'.finishTick Config.block).complete, exec_tick_next_iff.mpr ⟨mid', hmid', rfl⟩, ?_⟩
  simpa using State.chain_finishTick_congr hmm Config.block

/-- Settles O56: agreement on every field but the flags and the error registers is equality of the chains, which TICK
keeps (`exec_tick_congr`). -/
theorem consumerCannotInfluenceTicks : Obligations.ConsumerCannotInfluenceTicks := by
  intro b s s' t hs h
  obtain ⟨t', ht', htt⟩ := exec_tick_congr (State.chain_eq_iff.mpr hs) h
  exact ⟨t', ht', State.chain_eq_iff.mp htt⟩

end Sys2Proof.Machine
end

/-! ### What keeps the invariant: the time of day (10_state.md R32, 47_time_of_day.md R283) -/

section
namespace Sys2Proof.Machine

/-- A year has at least 365 days. -/
theorem TimeOfDay.le_lastDay (t : TimeOfDay) : 365 ≤ t.lastDay := by
  unfold TimeOfDay.lastDay
  split <;> omega

/-- A minute carry keeps a time of day normalised. -/
theorem TimeOfDay.minuteCarry_normal {t : TimeOfDay} (h : t.Normal) : t.minuteCarry.Normal := by
  obtain ⟨hticks, hsec, hmin, hhour, hday, hlast, hflags⟩ := h
  obtain ⟨hm, he⟩ | ⟨-, hh, he⟩ | ⟨-, -, hd, he⟩ | ⟨-, -, -, he⟩ := t.minuteCarry_cases
  · have hm' : (t.minutes + 1#8).toNat < 60 := by bv_omega
    rw [he]
    exact ⟨hticks, hsec, hm', hhour, hday, hlast, hflags⟩
  · have hh' : (t.hours + 1#8).toNat < 24 := by bv_omega
    rw [he]
    exact ⟨hticks, hsec, by simp, hh', hday, hlast, hflags⟩
  · have hyear : t.lastDay ≤ 366 := by unfold TimeOfDay.lastDay; split <;> omega
    have hd' : 1 ≤ (t.day + 1#16).toNat := by rw [BitVec.toNat_add]; simp; omega
    rw [he]
    exact ⟨hticks, hsec, by simp, by simp, hd', hd, hflags⟩
  · rw [he]
    refine ⟨hticks, hsec, by simp, by simp, by simp, ?_, hflags⟩
    exact le_trans (by simp) (TimeOfDay.le_lastDay _)

/-- A tick keeps a time of day normalised. -/
theorem TimeOfDay.advance_normal {t : TimeOfDay} (h : t.Normal) : t.advance.Normal := by
  obtain ⟨hticks, hsec, hmin, hhour, hday, hlast, hdst, hleap⟩ := h
  obtain ⟨hs, he⟩ | ⟨hs, hm, he⟩ | ⟨-, -, he⟩ := t.advance_cases
  · have hne : t.ticks + 1#8 ≠ 60#8 := by simpa [TimeOfDay.secondRolls] using hs
    have hticks' : (t.ticks + 1#8).toNat < 60 := by bv_omega
    rw [he]
    exact ⟨hticks', hsec, hmin, hhour, hday, hlast, hdst, hleap⟩
  · have hne : (t.seconds + 1#8).toNat ≠ 60 := by
      simpa [TimeOfDay.minuteRolls, TimeOfDay.minuteLength, hs, hleap] using hm
    have hsec' : (t.seconds + 1#8).toNat < 60 := by bv_omega
    rw [he]
    exact ⟨by simp, hsec', hmin, hhour, hday, hlast, hdst, hleap⟩
  · rw [he]
    exact TimeOfDay.minuteCarry_normal ⟨by simp, by simp, hmin, hhour, hday, hlast, hdst, rfl⟩

theorem TimeOfDay.advanceBy_normal (n : Nat) {t : TimeOfDay} (h : t.Normal) : (t.advanceBy n).Normal := by
  induction n generalizing t with
  | zero => exact h
  | succ n ih => exact ih (TimeOfDay.advance_normal h)

/-- What the range check ensures of the digits (44_frame_decoder.md R202). -/
theorem FrameDigits.ranges_of_inRange {d : FrameDigits} (h : d.inRange = true) :
    d.minutes ≤ 59 ∧ d.hours ≤ 23 ∧ 1 ≤ d.day ∧ d.day ≤ 365 + d.leapYear := by
  simp only [FrameDigits.inRange, Bool.and_eq_true, decide_eq_true_eq] at h
  obtain ⟨⟨⟨⟨-, hmin⟩, hhour⟩, hday⟩, hlast⟩ := h
  exact ⟨hmin, hhour, hday, hlast⟩

/-- An accepted frame loads a normalised time of day (44_frame_decoder.md R203). -/
theorem FrameDigits.load_normal {d : FrameDigits} {t : TimeOfDay} (c : Params) (hd : d.inRange = true)
    (hleap : d.leapYear ≤ 1) (ht : t.Normal) : (d.load c t).Normal := by
  obtain ⟨hmin, hhour, hday, hlast⟩ := FrameDigits.ranges_of_inRange hd
  obtain ⟨-, -, -, -, -, -, hflags⟩ := ht
  have hyear : d.day ≤ if d.leapYear == 1 then 366 else 365 := by
    obtain h0 | h1 : d.leapYear = 0 ∨ d.leapYear = 1 := by omega
    · simpa [h0] using hlast
    · simpa [h1] using hlast
  have hday16 : (trunc16 d.day).toNat = d.day := by
    simp only [trunc16, BitVec.toNat_ofNat]
    omega
  have hstart : TimeOfDay.Normal
      { t with
        minutes := trunc8 d.minutes, hours := trunc8 d.hours, day := trunc16 d.day
        year := trunc16 (2000 + d.year), isLeapYear := d.leapYear == 1, seconds := 0#8, ticks := 0#8 } := by
    refine ⟨by simp, by simp, ?_, ?_, hday16.symm ▸ hday, le_of_eq_of_le hday16 hyear, hflags⟩
    · simp only [trunc8, BitVec.toNat_ofNat]; omega
    · simp only [trunc8, BitVec.toNat_ofNat]; omega
  exact TimeOfDay.advanceBy_normal c.frameTicksDelta (TimeOfDay.minuteCarry_normal hstart)

/-- The leap-year digit is one bit (44_frame_decoder.md R201). -/
theorem frameDigits_leapYear_le (st : Vector Symbol 60) : (frameDigits st).leapYear ≤ 1 := frameBit_le st 55

/-- A push keeps the time of day normalised. -/
theorem State.ssShift_tod_normal (c : Params) (sym : Symbol) {s : State} (h : s.tod.Normal) :
    (s.ssShift c sym).tod.Normal := by
  obtain ⟨-, he⟩ | ⟨-, hr, he⟩ | ⟨-, -, he⟩ := s.ssShift_cases c sym
  · rwa [he]
  · rw [he]
    exact FrameDigits.load_normal c hr (frameDigits_leapYear_le _) h
  · rwa [he]

end Sys2Proof.Machine
end

/-! ### What keeps the invariant: the boards (10_state.md R25) -/

section
namespace Sys2Proof.Machine

/-- A shift of a score into a board of scores leaves a board of scores whose newest is that score. -/
theorem Scoreboard.shift_holds {b : Scoreboard} {v w : Byte} (hb : b.Holds w) (hv : v.toNat ≤ 80) :
    (b.shift Config.block v).Holds v := by
  obtain ⟨-, hle, -⟩ := hb
  obtain ⟨hslots, hpeak⟩ := Scoreboard.shift_spec v b
  refine ⟨hpeak, fun i => ?_, by rw [hslots, shiftSlots_zero]⟩
  rw [hslots]
  cases i using Fin.cases with
  | zero => rwa [shiftSlots_zero]
  | succ i => rw [shiftSlots_succ]; exact hle i.castSucc

/-- The empty board (10_state.md R25). -/
theorem Scoreboard.reset_holds : Scoreboard.reset.Holds 0#8 := by decide +kernel

/-- A detected offset is that of one of the boards (42_symbol_detector.md R163). -/
theorem detectSync_offset {c : Params} {bs : PerBoard Scoreboard} {sym : Symbol} {off : Int}
    (h : detectSync c bs = some (sym, off)) : ∃ k : Board, off = (bs.get k).offset c := by
  unfold detectSync at h
  split at h
  · next k _ => exact ⟨k, by simpa using (congrArg Prod.snd (Option.some.inj h)).symm⟩
  · simp at h

/-- The peak of a board whose cache is right stands at most five slots from the centre (42_symbol_detector.md R165). -/
theorem Scoreboard.offset_le {b : Scoreboard} (h : b.PeakCached) : (b.offset Config.block).natAbs ≤ 5 := by
  have hi : b.peakI.toNat < 11 := h.1
  have hc : Config.block.center = 5 := rfl
  unfold Scoreboard.offset
  rw [hc]
  omega

end Sys2Proof.Machine
end

/-! ### What keeps the invariant: the clock and the calibration (10_state.md R30, R31) -/

section
namespace Sys2Proof.Machine

/-- A cadence step leaves the clock in its ranges whenever `SCALED` is. -/
theorem Clock.cadence_inRange {k : Clock} (hlo : 2026666 ≤ k.scaled.toNat) (hhi : k.scaled.toNat ≤ 2239998) :
    (k.cadence Config.block).InRange := by
  refine ⟨hlo, hhi, ?_, ?_, rfl⟩
  · have hden : Config.block.denom = 64 := rfl
    simp only [Clock.cadence, Clock.nextFracAcc, hden, trunc8, BitVec.toNat_ofNat]
    omega
  · change k.nextPeriod Config.block = k.whole Config.block ∨ k.nextPeriod Config.block = k.whole Config.block + 1#16
    unfold Clock.nextPeriod
    split
    · exact .inr rfl
    · exact .inl rfl

/-- The stored result of an adjust is in range (46_clock_discipline.md R253). -/
theorem adjustedScaled_toNat_range (scaled n a : Nat) :
    2026666 ≤ (trunc32 (adjustedScaled Config.block scaled n a)).toNat
      ∧ (trunc32 (adjustedScaled Config.block scaled n a)).toNat ≤ 2239998 := by
  obtain ⟨hlo, hhi⟩ := adjustedScaled_block_range scaled n a
  simp only [trunc32, BitVec.toNat_ofNat]
  omega

/-- What RESET loads is in range, with a status of 0, 1 or 2 (48_calibration.md R301). -/
theorem calLoad_range (p : Bool) (r : CalRecord) :
    2026666 ≤ (calLoad Config.block p r).1 ∧ (calLoad Config.block p r).1 ≤ 2239998
      ∧ (calLoad Config.block p r).2 ≤ 2 := by
  obtain h | ⟨-, -, hlo, hhi, h⟩ | ⟨-, -, hlo, hhi, h⟩ := calLoad_cases p r <;> rw [h]
  · decide
  · exact ⟨hlo, hhi, one_le_two⟩
  · exact ⟨hlo, hhi, le_refl 2⟩

/-- The clock that RESET loads is in its ranges. -/
theorem resetClock_inRange {n : Nat} (hlo : 2026666 ≤ n) (hhi : n ≤ 2239998) :
    (resetClock Config.block n).InRange := by
  have hn : (trunc32 n).toNat = n := by
    simp only [trunc32, BitVec.toNat_ofNat]
    omega
  exact ⟨by simpa [resetClock, hn] using hlo, by simpa [resetClock, hn] using hhi, by simp [resetClock], .inl rfl, rfl⟩

/-- The discipline check leaves `SCALED` in range (46_clock_discipline.md R253). -/
theorem State.disciplineCheck_scaled {s t : State} (h : s.disciplineCheck Config.block = .ok t)
    (hs : 2026666 ≤ s.clock.scaled.toNat ∧ s.clock.scaled.toNat ≤ 2239998) :
    2026666 ≤ t.clock.scaled.toNat ∧ t.clock.scaled.toNat ≤ 2239998 := by
  obtain ⟨-, rfl⟩ | ⟨-, -, hk, -⟩ := State.disciplineCheck_cases h
  · exact hs
  · rw [hk]
    exact adjustedScaled_toNat_range _ _ _

end Sys2Proof.Machine
end

/-! ### What keeps the invariant: the stream and the error registers (10_state.md R27, R37) -/

section
namespace Sys2Proof.Machine

/-- FRAME_SCORE is the score of the stream (10_state.md R27). -/
abbrev State.FrameScored (s : State) : Prop := s.frameScore.toNat = frameAlignment Config.block s.stream

/-- A push scores the stream it leaves. -/
theorem State.ssShift_frameScored (sym : Symbol) (s : State) : (s.ssShift Config.block sym).FrameScored := by
  have hle := frameAlignment_le Config.block (pushSymbol Config.block sym s.stream)
  rw [State.FrameScored, State.ssShift_frameScore, State.ssShift_stream, trunc8, BitVec.toNat_ofNat]
  omega

/-- The record of an illegal word is consistent (60_exceptions.md R350). -/
theorem ErrorRecord.record_consistent {e : ErrorRecord} {k : IllegalCause} {w : CommandWord} (he : e.Consistent)
    (hw : decode w = .error k) : (e.record k w).Consistent := by
  cases hr : e.err with
  | true => rwa [ErrorRecord.record_of_err hr]
  | false => 
    rw [ErrorRecord.record_of_not_err hr]
    exact ⟨by simp, fun _ => by simp [hw]⟩

end Sys2Proof.Machine
end

/-! ### What keeps the invariant: the acquisition state (10_state.md R28, R29, 46_clock_discipline.md R258)

A TICK in SYNC takes the acquisition state through three stages: the two counters have counted, the countdown and any
peek are over, the two checks have run. `Acquisition.Tracking n` is what holds at every stage; the bound on `ACC` is that
of R258, where `n` stands for the ticks from the last adjust to the next peek. -/

section
namespace Sys2Proof.Machine

/-- The ranges of the acquisition state inside a TICK of SYNC, with `|ACC|` bounded by the peeks that fit in `n`
ticks. -/
structure Acquisition.Tracking (n : Nat) (a : Acquisition) : Prop where
  mode : a.mode = .sync
  seekCount : a.seekCount.toNat = 10
  peekIn_pos : 1 ≤ a.peekIn.toNat
  peekIn_le : a.peekIn.toNat ≤ 65
  missed : a.missed.toNat < 6
  lastOffset : a.lastOffset.toInt.natAbs ≤ 5
  tsp : a.tsp.toNat ≤ 500000
  acc_le : a.acc.toInt.natAbs ≤ 110
  drift : a.acc.toInt.natAbs ≤ 15 + 5 * (n / 55)

/-- The two counters after step 4 of TICK (49_tick_and_port.md R322). -/
abbrev Acquisition.counted (a : Acquisition) : Acquisition := { a with tss := a.tss + 1#32, tsp := a.tsp + 1#32 }

/-- Step 4 in SYNC: the tick just counted is one of the ticks to the next peek, and past 1001 ticks `|ACC|` is within
the drift trigger. -/
theorem Acquisition.counted_tracking {a : Acquisition} (hr : a.InRange) (ho : a.OffsetBounded) (hm : a.mode = .sync) :
    a.counted.Tracking (a.counted.tss.toNat + a.counted.peekIn.toNat - 1)
      ∧ (1001 < a.counted.tss.toNat → a.counted.acc.toInt.natAbs ≤ 15) := by
  obtain ⟨-, hcount, hpeek, hpeek1, -, hmissed, hoff, htsp⟩ := hr
  obtain ⟨hacc, hsync⟩ := ho
  obtain ⟨hdrift, hlate⟩ := hsync hm
  have htsp' : (a.tsp + 1#32).toNat ≤ 500000 := by
    have := htsp hm
    bv_omega
  have htss : (a.tss + 1#32).toNat = (a.tss.toNat + 1) % 4294967296 := by simp [BitVec.toNat_add]
  refine ⟨⟨hm, hcount hm, hpeek1 hm, hpeek, hmissed hm, hoff, htsp', hacc, ?_⟩, fun hlt => hlate ?_⟩
  · show a.acc.toInt.natAbs ≤ 15 + 5 * (((a.tss + 1#32).toNat + a.peekIn.toNat - 1) / 55)
    by_cases hwrap : a.tss.toNat + 1 = 4294967296
    · have := hlate (by omega)
      omega
    · have hsum : (a.tss + 1#32).toNat + a.peekIn.toNat - 1 = a.tss.toNat + a.peekIn.toNat := by omega
      rw [hsum]
      exact hdrift
  · have hlt' : 1001 < (a.tss + 1#32).toNat := hlt
    omega

/-- A countdown that does not reach 0 uses up the tick. -/
theorem Acquisition.Tracking.countDown {a : Acquisition} (h : a.Tracking (a.tss.toNat + a.peekIn.toNat - 1))
    (hp : a.peekIn ≠ 1#8) :
    Acquisition.Tracking (a.tss.toNat + (a.peekIn - 1#8).toNat) { a with peekIn := a.peekIn - 1#8 } := by
  have hpos := h.peekIn_pos
  have hle := h.peekIn_le
  have hdown : (a.peekIn - 1#8).toNat = a.peekIn.toNat - 1 := by bv_omega
  have hne : a.peekIn.toNat ≠ 1 := fun he => hp (BitVec.eq_of_toNat_eq (by simpa using he))
  have hdrift := h.drift
  have hsum : a.tss.toNat + (a.peekIn - 1#8).toNat = a.tss.toNat + a.peekIn.toNat - 1 := by omega
  exact ⟨h.mode, h.seekCount, by simp only [hdown]; omega, by simp only [hdown]; omega, h.missed, h.lastOffset, h.tsp,
    h.acc_le, by rw [hsum]; exact hdrift⟩

/-- A peek that detects adds at most 5 to `|ACC|` and puts the next peek at least 55 ticks ahead. -/
theorem Acquisition.Tracking.hit {a : Acquisition} {off : Int} (h : a.Tracking (a.tss.toNat + a.peekIn.toNat - 1))
    (hlate : 1001 < a.tss.toNat → a.acc.toInt.natAbs ≤ 15) (hp : a.peekIn = 1#8) (hoff : off.natAbs ≤ 5) :
    (a.hit Config.block off).Tracking (a.tss.toNat + (a.hit Config.block off).peekIn.toNat) := by
  have hacc_le := h.acc_le
  have hdrift := h.drift
  have hpeek : ((a.hit Config.block off).peekIn.toNat : Int) = 60 + off := by
    have hst : (Config.block.symbolTicks : Int) = 60 := rfl
    simp only [Acquisition.hit, hst, BitVec.toNat_ofInt]
    omega
  have hacc : (a.hit Config.block off).acc.toInt = a.acc.toInt + off :=
    BitVec.toInt_ofInt_eq_self (by decide) (by omega) (by omega)
  have hlast : (a.hit Config.block off).lastOffset.toInt = off :=
    BitVec.toInt_ofInt_eq_self (by decide) (by omega) (by omega)
  have hn : a.tss.toNat + a.peekIn.toNat - 1 = a.tss.toNat := by simp [hp]
  rw [hn] at hdrift
  have hnear : a.acc.toInt.natAbs ≤ 105 := by
    by_cases ht : 1001 < a.tss.toNat
    · have := hlate ht
      omega
    · omega
  exact ⟨h.mode, h.seekCount, by omega, by omega, by simp [Acquisition.hit], by rw [hlast]; exact hoff, h.tsp,
    by rw [hacc]; omega, by rw [hacc]; omega⟩

/-- A missed peek leaves `ACC` and puts the next peek 60 ticks ahead, or it is the sixth and returns to SEEK. -/
theorem Acquisition.Tracking.miss {a : Acquisition} {n : Nat} (h : a.Tracking n) (hn : n ≤ a.tss.toNat + 60) :
    ((a.miss Config.block).mode = .sync
        ∧ (a.miss Config.block).Tracking (a.tss.toNat + (a.miss Config.block).peekIn.toNat)) ∨
      ((a.miss Config.block).mode = .seek ∧ (a.miss Config.block).InRange ∧ (a.miss Config.block).OffsetBounded) := by
  have hmissed := h.missed
  have hdrift := h.drift
  have hmode := h.mode
  have hm : (a.missed + 1#8).toNat = a.missed.toNat + 1 := by bv_omega
  have hsix : Config.block.syncMissThreshold = 6 := rfl
  have hpeek : trunc8 Config.block.symbolTicks = 60#8 := rfl
  by_cases hlast : a.missed.toNat = 5
  · have he : a.miss Config.block = Acquisition.enterSeek { a with missed := a.missed + 1#8, peekIn := 60#8 } := by
      simp only [Acquisition.miss, hpeek, hsix, hm, hlast]
      rfl
    rw [he]
    exact .inr ⟨rfl, ⟨fun _ => by simp [Acquisition.enterSeek], nofun, by simp [Acquisition.enterSeek], nofun,
      by simp only [Acquisition.enterSeek, hm]; omega, nofun, h.lastOffset, nofun⟩, h.acc_le, nofun⟩
  · have he : a.miss Config.block = { a with missed := a.missed + 1#8, peekIn := 60#8 } := by
      simp only [Acquisition.miss, hpeek, hsix, hm]
      exact if_neg (by omega)
    rw [he]
    exact .inl ⟨h.mode, h.mode, h.seekCount, by simp, by simp, by simp only [hm]; omega, h.lastOffset, h.tsp,
      h.acc_le, by simp; omega⟩

/-- What the countdown and the peek leave of step 5 in SYNC. -/
theorem State.countDown_tracking {s : State} (h : s.acq.Tracking (s.acq.tss.toNat + s.acq.peekIn.toNat - 1))
    (hlate : 1001 < s.acq.tss.toNat → s.acq.acc.toInt.natAbs ≤ 15) (hpeak : ∀ k, (s.board.get k).PeakCached) :
    ((s.countDown Config.block).acq.mode = .sync
        ∧ (s.countDown Config.block).acq.Tracking
            ((s.countDown Config.block).acq.tss.toNat + (s.countDown Config.block).acq.peekIn.toNat)) ∨
      ((s.countDown Config.block).acq.mode = .seek
        ∧ (s.countDown Config.block).acq.InRange ∧ (s.countDown Config.block).acq.OffsetBounded) := by
  obtain ⟨hp, he⟩ | ⟨hp, sym, off, hd, he⟩ | ⟨hp, -, he⟩ := s.countDown_cases Config.block
  · rw [he]
    exact .inl ⟨h.mode, h.countDown hp⟩
  · obtain ⟨k, rfl⟩ := detectSync_offset hd
    rw [he]
    exact .inl ⟨h.mode, h.hit hlate hp (Scoreboard.offset_le (hpeak k))⟩
  · have htss : (s.acq.miss Config.block).tss = s.acq.tss := by
      unfold Acquisition.miss
      dsimp only
      split <;> rfl
    rw [he]
    simpa only [htss] using h.miss (by rw [hp]; simp)

/-- The discipline check brings `|ACC|` back within the drift trigger once `TSS` exceeds 1000 (R227, R258). -/
theorem State.disciplineCheck_tracking {s t : State} (ht : s.disciplineCheck Config.block = .ok t)
    (h : s.acq.Tracking (s.acq.tss.toNat + s.acq.peekIn.toNat)) :
    t.acq.Tracking (t.acq.tss.toNat + t.acq.peekIn.toNat)
      ∧ (1000 < t.acq.tss.toNat → t.acq.acc.toInt.natAbs ≤ 15) := by
  obtain ⟨hdue, rfl⟩ | ⟨-, -, -, he⟩ := State.disciplineCheck_cases ht
  · refine ⟨h, fun hlt => ?_⟩
    have h15 : Config.block.driftTrigger = 15 := rfl
    have h1000 : Config.block.minDisciplineTicks = 1000 := rfl
    simp only [Acquisition.disciplineDue, h15, h1000, Bool.and_eq_false_iff, decide_eq_false_iff_not] at hdue
    omega
  · rw [he]
    exact ⟨⟨h.mode, h.seekCount, h.peekIn_pos, h.peekIn_le, h.missed, h.lastOffset, h.tsp, by simp, by simp⟩,
      fun _ => by simp⟩

/-- The persistence check clears an overdue `TSP` (R228), which ends step 5 within the ranges of SYNC. -/
theorem State.persistCheck_inRange {s : State} (h : s.acq.Tracking (s.acq.tss.toNat + s.acq.peekIn.toNat))
    (hlate : 1000 < s.acq.tss.toNat → s.acq.acc.toInt.natAbs ≤ 15) :
    (s.persistCheck Config.block).acq.InRange ∧ (s.persistCheck Config.block).acq.OffsetBounded := by
  have hmode : s.acq.mode ≠ .seek := by rw [h.mode]; decide
  have hoffset : s.acq.acc.toInt.natAbs ≤ 110
      ∧ (s.acq.mode = .sync → s.acq.acc.toInt.natAbs ≤ 15 + 5 * ((s.acq.tss.toNat + s.acq.peekIn.toNat) / 55)
        ∧ (1000 < s.acq.tss.toNat → s.acq.acc.toInt.natAbs ≤ 15)) := ⟨h.acc_le, fun _ => ⟨h.drift, hlate⟩⟩
  have hlimit : Config.block.persistAfterTicks = 500000 := rfl
  obtain ⟨htsp, he⟩ | ⟨-, he⟩ := s.persistCheck_cases Config.block <;> rw [he]
  · exact ⟨⟨fun hm => absurd hm hmode, fun _ => h.seekCount, h.peekIn_le, fun _ => h.peekIn_pos, h.missed.le,
      fun _ => h.missed, h.lastOffset, fun _ => hlimit ▸ htsp⟩, hoffset⟩
  · exact ⟨⟨fun hm => absurd hm hmode, fun _ => h.seekCount, h.peekIn_le, fun _ => h.peekIn_pos, h.missed.le,
      fun _ => h.missed, h.lastOffset, fun _ => by simp⟩, hoffset⟩

/-- A detection in SEEK: below the tenth it only counts, and the tenth starts a fresh SYNC episode (R221, R222). -/
theorem Acquisition.countDetection_inRange {a : Acquisition} (hr : a.InRange) (ho : a.OffsetBounded)
    (hm : a.mode = .seek) :
    (a.countDetection Config.block).InRange ∧ (a.countDetection Config.block).OffsetBounded := by
  obtain ⟨hcount, -, hpeek, -, hmissed, -, hoff, -⟩ := hr
  obtain ⟨hacc, -⟩ := ho
  have hlt := hcount hm
  have hsucc : (a.seekCount + 1#8).toNat = a.seekCount.toNat + 1 := by bv_omega
  have hten : Config.block.seekDetectedThreshold = 10 := rfl
  have hne : a.mode ≠ .sync := by rw [hm]; decide
  by_cases hlast : a.seekCount.toNat = 9
  · have he : a.countDetection Config.block
        = Acquisition.enterSync Config.block { a with seekCount := a.seekCount + 1#8 } := by
      simp only [Acquisition.countDetection, hten, hsucc, hlast]
      rfl
    have hpeek60 : (trunc8 Config.block.symbolTicks).toNat = 60 := rfl
    rw [he]
    refine ⟨⟨?_, ?_, ?_, ?_, ?_, ?_, ?_, ?_⟩, ?_, ?_⟩ <;> simp [Acquisition.enterSync, hpeek60, hsucc, hlast]
  · have he : a.countDetection Config.block = { a with seekCount := a.seekCount + 1#8 } := by
      simp only [Acquisition.countDetection, hten, hsucc]
      exact if_neg (by omega)
    rw [he]
    exact ⟨⟨fun _ => by simp only [hsucc]; omega, fun h => absurd h hne, hpeek, fun h => absurd h hne, hmissed,
      fun h => absurd h hne, hoff, fun h => absurd h hne⟩, hacc, fun h => absurd h hne⟩

/-- Counting a tick in SEEK keeps the ranges, which do not bound `TSS` and `TSP` there. -/
theorem Acquisition.counted_inRange_of_seek {a : Acquisition} (hr : a.InRange) (ho : a.OffsetBounded)
    (hm : a.mode = .seek) : a.counted.InRange ∧ a.counted.OffsetBounded := by
  obtain ⟨hcount, -, hpeek, -, hmissed, -, hoff, -⟩ := hr
  obtain ⟨hacc, -⟩ := ho
  have hne : a.mode ≠ .sync := by rw [hm]; decide
  exact ⟨⟨hcount, fun h => absurd h hne, hpeek, fun h => absurd h hne, hmissed, fun h => absurd h hne, hoff,
    fun h => absurd h hne⟩, hacc, fun h => absurd h hne⟩

/-- Steps 4 and 5 of TICK keep the ranges of the acquisition state and the bound on `ACC`. -/
theorem State.acquisitionTick_inRange {s t : State} {a : Acquisition} (hr : a.InRange) (ho : a.OffsetBounded)
    (ha : s.acq = a.counted) (hpeak : ∀ k, (s.board.get k).PeakCached)
    (h : s.acquisitionTick Config.block = .ok t) : t.acq.InRange ∧ t.acq.OffsetBounded := by
  obtain ⟨hm, rfl⟩ | ⟨hm, h⟩ := State.acquisitionTick_cases h <;> rw [ha] at hm
  · obtain ⟨hr', ho'⟩ := Acquisition.counted_inRange_of_seek hr ho hm
    obtain ⟨-, he⟩ | ⟨sym, -, he⟩ := s.seekTick_cases Config.block <;> rw [he]
    · rw [ha]
      exact ⟨hr', ho'⟩
    · simp only [ha]
      exact Acquisition.countDetection_inRange hr' ho' hm
  · obtain ⟨htrack, hlate⟩ := Acquisition.counted_tracking hr ho hm
    rw [← ha] at htrack hlate
    have hdown := State.countDown_tracking htrack hlate hpeak
    obtain ⟨hseek, rfl⟩ | ⟨hsync, u, hu, rfl⟩ := State.syncTick_cases h
    · obtain ⟨hsync, -⟩ | ⟨-, hgood⟩ := hdown
      · simp [hseek] at hsync
      · exact hgood
    · obtain ⟨-, htracked⟩ | ⟨hseek, -⟩ := hdown
      · obtain ⟨hu', hlate'⟩ := State.disciplineCheck_tracking hu htracked
        exact State.persistCheck_inRange hu' hlate'
      · simp [hseek] at hsync

end Sys2Proof.Machine
end

/-! ### Every step keeps the invariant -/

section
namespace Sys2Proof.Machine

/-- The invariant speaks of the chain, the error registers and the period outputs alone. -/
theorem State.Inv.of_chain {s t : State} (h : s.Inv) (hc : t.chain = s.chain) (he : t.error.Consistent)
    (ho : t.ports.periodOut = s.ports.periodOut ∧ t.ports.compareOut = s.ports.compareOut) : t.Inv := by
  obtain ⟨-, hscore, hboard, hstream, hframe, hacq, hclock, htod, -, -, -, hcal⟩ := State.chain_eq_iff.mp hc
  dsimp only at hscore hboard hstream hframe hacq hclock htod hcal
  obtain ⟨hperiod, hcompare⟩ := ho
  exact
    { tod := by rw [htod]; exact h.tod
      boardZ := by rw [hboard, hscore]; exact h.boardZ
      boardO := by rw [hboard, hscore]; exact h.boardO
      boardM := by rw [hboard, hscore]; exact h.boardM
      frameScore := by rw [hframe, hstream]; exact h.frameScore
      clock := by rw [hclock]; exact h.clock
      acq := by rw [hacq]; exact h.acq
      offset := by rw [hacq]; exact h.offset
      error := he
      calStatus := by rw [hcal]; exact h.calStatus
      outputs := by rw [hperiod, hcompare, hclock]; exact h.outputs }

/-- Presenting a command keeps the invariant. -/
theorem State.Inv.accept {s : State} (h : s.Inv) (p : Presentation) (rest : List Presentation) :
    (s.accept p rest).Inv :=
  h.of_chain (State.chain_accept p rest s) h.error ⟨rfl, rfl⟩

/-- Step 5 of TICK keeps the time of day normalised. -/
theorem State.acquisitionTick_tod {s t : State} (ht : s.acquisitionTick Config.block = .ok t) (h : s.tod.Normal) :
    t.tod.Normal :=
  State.acquisitionTick_keeps (P := fun u => u.tod.Normal)
    (fun _ sym hu => State.ssShift_tod_normal Config.block sym hu)
    (fun _ _ hu => hu)
    (fun _ _ hd hu => by rw [State.disciplineCheck_eq hd]; exact hu)
    (fun _ hu => by rw [State.persistCheck_eq]; exact hu) ht h

/-- Step 5 of TICK keeps FRAME_SCORE the score of the stream. -/
theorem State.acquisitionTick_frameScored {s t : State} (ht : s.acquisitionTick Config.block = .ok t)
    (h : s.FrameScored) : t.FrameScored :=
  State.acquisitionTick_keeps (P := State.FrameScored)
    (fun u sym _ => u.ssShift_frameScored sym)
    (fun _ _ hu => hu)
    (fun _ _ hd hu => by rw [State.disciplineCheck_eq hd]; exact hu)
    (fun _ hu => by rw [State.persistCheck_eq]; exact hu) ht h

/-- Step 5 of TICK keeps `SCALED` within 5% of nominal. -/
theorem State.acquisitionTick_scaled {s t : State} (ht : s.acquisitionTick Config.block = .ok t)
    (h : 2026666 ≤ s.clock.scaled.toNat ∧ s.clock.scaled.toNat ≤ 2239998) :
    2026666 ≤ t.clock.scaled.toNat ∧ t.clock.scaled.toNat ≤ 2239998 :=
  State.acquisitionTick_keeps
    (P := fun u => 2026666 ≤ u.clock.scaled.toNat ∧ u.clock.scaled.toNat ≤ 2239998)
    (fun _ _ hu => by rw [State.ssShift_clock]; exact hu)
    (fun _ _ hu => hu)
    (fun _ _ hd hu => State.disciplineCheck_scaled hd hu)
    (fun _ hu => by rw [State.persistCheck_eq]; exact hu) ht h

/-- After steps 2 to 4 of TICK each board holds scores, the new one newest. -/
theorem State.takeSample_holds {s : State} (h : s.Inv) (b : Bool) (k : Board) :
    ((s.takeSample Config.block b).board.get k).Holds ((s.takeSample Config.block b).score.get k) := by
  obtain ⟨hscore, hboard⟩ := State.takeSample_board Config.block b s k
  have hold : (s.board.get k).Holds (s.score.get k) := by
    cases k with
    | Z => exact h.boardZ
    | O => exact h.boardO
    | M => exact h.boardM
  rw [hscore, hboard]
  exact Scoreboard.shift_holds hold (corrScore_le k _)

/-- TICK keeps the invariant. -/
theorem State.Inv.tick {b : Bool} {s t : State} (h : s.Inv) (ht : exec (.tick b) s = .next t) : t.Inv := by
  obtain ⟨mid, hmid, rfl⟩ := exec_tick_next_iff.mp ht
  have hholds := State.takeSample_holds h b
  obtain ⟨-, hscore, hboard, herror, hcal, -, -⟩ := State.acquisitionTick_frame hmid
  obtain ⟨hacq, hoffset⟩ := State.acquisitionTick_inRange h.acq h.offset rfl (fun k => (hholds k).1) hmid
  rw [← hscore, ← hboard] at hholds
  obtain ⟨hlo, hhi, -⟩ := h.clock
  obtain ⟨hlo, hhi⟩ := State.acquisitionTick_scaled hmid ⟨hlo, hhi⟩
  exact
    { tod := by
        rw [State.complete_tod, State.finishTick_tod]
        exact TimeOfDay.advance_normal (State.acquisitionTick_tod hmid h.tod)
      boardZ := by
        rw [State.complete_board, State.complete_score, State.finishTick_board, State.finishTick_score]
        exact hholds .Z
      boardO := by
        rw [State.complete_board, State.complete_score, State.finishTick_board, State.finishTick_score]
        exact hholds .O
      boardM := by
        rw [State.complete_board, State.complete_score, State.finishTick_board, State.finishTick_score]
        exact hholds .M
      frameScore := by
        rw [State.complete_frameScore, State.complete_stream, State.finishTick_frameScore, State.finishTick_stream]
        exact State.acquisitionTick_frameScored hmid h.frameScore
      clock := by
        rw [State.complete_clock, State.finishTick_clock]
        exact Clock.cadence_inRange hlo hhi
      acq := by
        rw [State.complete_acq, State.finishTick_acq]
        exact hacq
      offset := by
        rw [State.complete_acq, State.finishTick_acq]
        exact hoffset
      error := by
        rw [State.complete_error, State.finishTick_error, herror]
        exact h.error
      calStatus := by
        rw [State.complete_calStatus, State.finishTick_calStatus, hcal]
        exact h.calStatus
      outputs := by simp }

/-- The state right after a RESET with p = 0 meets the invariant. -/
theorem State.reset_inv : State.reset.Inv where
  tod := by decide
  boardZ := Scoreboard.reset_holds
  boardO := Scoreboard.reset_holds
  boardM := Scoreboard.reset_holds
  frameScore := by decide +kernel
  clock := by decide +kernel
  acq := by decide
  offset := by decide
  error := by decide
  calStatus := by decide
  outputs := ⟨rfl, rfl⟩

/-- RESET establishes the invariant, from any state. -/
theorem State.resetBlock_inv (p : Bool) (s : State) : (s.resetBlock Config.block p).complete.Inv := by
  obtain ⟨hlo, hhi, hcal⟩ := calLoad_range p s.ports.calIn
  have hcal8 : (trunc8 (calLoad Config.block p s.ports.calIn).2).toNat ≤ 2 := by
    simp only [trunc8, BitVec.toNat_ofNat]
    omega
  exact
    { State.reset_inv with
      error := by rw [State.complete_error, State.resetBlock_error]; exact State.reset_inv.error
      clock := resetClock_inRange hlo hhi
      calStatus := hcal8
      outputs := ⟨rfl, rfl⟩ }

/-- A legal command keeps the invariant. -/
theorem State.Inv.exec {i : Instr} {s t : State} (h : s.Inv) (ht : Machine.exec i s = .next t) : t.Inv := by
  cases i with
  | tick b => exact h.tick ht
  | rd a =>
    rw [exec_rd] at ht
    cases ht
    exact h.of_chain (by simp) h.error ⟨rfl, rfl⟩
  | clrf m =>
    rw [exec_clrf] at ht
    cases ht
    exact h.of_chain (by simp) h.error ⟨rfl, rfl⟩
  | reset p =>
    rw [exec_reset] at ht
    cases ht
    exact State.resetBlock_inv p s

/-- Settles O58: an idle step and an illegal word change nothing the invariant speaks of but the record of a first
error, and `State.Inv.exec` says it of every legal command. -/
theorem everyStepKeepsTheInvariant : Obligations.EveryStepKeepsTheInvariant := by
  intro s t h ht
  obtain ⟨-, rfl⟩ | ⟨p, rest, -, -, hx⟩ := step_cases ht
  · exact h.of_chain (State.chain_idle s) h.error ⟨rfl, rfl⟩
  · have hp := h.accept p rest
    obtain ⟨i, -, hx⟩ | ⟨k, hk, rfl⟩ := execute_cases hx
    · exact hp.exec hx
    · exact hp.of_chain (State.chain_raiseIllegal k p.word _) (ErrorRecord.record_consistent hp.error hk) ⟨rfl, rfl⟩

end Sys2Proof.Machine
end

/-! ### The register space (10_state.md R34, R35, R44, 20_memory.md R64) -/

section
namespace Sys2Proof.Machine

/-- A row that ends before another begins. -/
abbrev RegRow.Before (r r' : RegRow) : Prop := r.base + r.len ≤ r'.base

/-- The rows of the register map stand in ascending order and do not overlap. -/
theorem regMap_ordered (c : Params) (s : State) : (regMap c s).Pairwise RegRow.Before := by
  have htrans : IsTrans RegRow RegRow.Before := ⟨fun _ _ _ h h' => by unfold RegRow.Before at *; omega⟩
  rw [← List.isChain_iff_pairwise]
  simp [regMap, RegRow.Before, RegRow.one, RegRow.field]

/-- The rows of the register map lie in the 256 addresses (20_memory.md R61). -/
theorem regMap_le (c : Params) (s : State) : ∀ r ∈ regMap c s, r.base + r.len ≤ 256 := by
  simp [regMap, RegRow.one, RegRow.field]

/-- Of rows in ascending order, an address finds the one that holds it. -/
theorem find?_holds {rows : List RegRow} {r : RegRow} {a : Nat} (hrows : rows.Pairwise RegRow.Before) (hr : r ∈ rows)
    (ha : r.holds a = true) : rows.find? (RegRow.holds a) = some r := by
  induction rows with
  | nil => simp at hr
  | cons x xs ih =>
    obtain ⟨hx, hxs⟩ := List.pairwise_cons.mp hrows
    rcases List.mem_cons.mp hr with rfl | hmem
    · simp [ha]
    · have hbefore : x.base + x.len ≤ r.base := hx r hmem
      have hmiss : x.holds a = false := by
        simp only [RegRow.holds, Bool.and_eq_true, Bool.and_eq_false_iff, decide_eq_true_eq,
          decide_eq_false_iff_not] at ha ⊢
        omega
      simpa [hmiss] using ih hxs hmem

/-- Every row of the register map is read at each of its addresses (20_memory.md R64, 49_tick_and_port.md R326). -/
theorem readReg_row {s : State} {r : RegRow} {j : Nat} (hr : r ∈ regMap Config.block s) (hj : j < r.len) :
    readReg s (BitVec.ofNat 8 (r.base + j)) = r.byte j := by
  have hle := regMap_le Config.block s r hr
  have ha : (BitVec.ofNat 8 (r.base + j)).toNat = r.base + j := by
    rw [BitVec.toNat_ofNat]
    omega
  have hholds : r.holds (r.base + j) = true := by simp [RegRow.holds, hj]
  unfold readReg readRegWith
  rw [ha, find?_holds (regMap_ordered Config.block s) hr hholds]
  simp

/-! #### STATUS -/

/-- Bit `i` of a packed byte is bit `i` of the list. -/
theorem getLsbD_byteOfBits (bs : List Bool) (i : Nat) (hi : i < 8) :
    (byteOfBits bs).getLsbD i = bs.getD i false := by
  induction bs generalizing i with
  | nil => simp [byteOfBits]
  | cons b bs ih =>
    cases i with
    | zero => simp [byteOfBits]
    | succ i =>
      have hi' : i < 8 := by omega
      rw [List.getD_cons_succ, ← ih i hi']
      simp [byteOfBits, hi, hi']

/-- Bit `i` of the STATUS byte (10_state.md R34). -/
theorem State.getLsbD_status (s : State) (i : Nat) (hi : i < 8) :
    s.status.getLsbD i = s.statusBits.getD i false :=
  getLsbD_byteOfBits s.statusBits i hi

/-- Address 0x00 reads STATUS. -/
theorem readReg_status (s : State) : readReg s 0x00#8 = s.status :=
  readReg_row (r := .one 0x00 s.status) (j := 0) (by simp [regMap]) (by simp [RegRow.one])

/-- `MODE` as a bit: 1 = SYNC (10_state.md R34). -/
theorem Mode.bit_eq (m : Mode) : m.bit = decide (m = .sync) := by cases m <;> rfl

/-- Settles O13: each bit of STATUS is its entry of `State.statusBits`. -/
theorem statusBits : Obligations.StatusBits := by
  intro s
  have hbit : ∀ i < 8, (readReg s 0x00#8).getLsbD i = s.statusBits.getD i false := fun i hi => by
    rw [readReg_status, State.getLsbD_status s i hi]
  exact ⟨(hbit 0 (by omega)).trans (Mode.bit_eq s.acq.mode), hbit 1 (by omega), hbit 2 (by omega), hbit 3 (by omega),
    hbit 4 (by omega), hbit 5 (by omega), hbit 6 (by omega), hbit 7 (by omega)⟩

/-! #### What equal registers say of the fields -/

/-- A field is determined by its bytes. -/
theorem eq_of_byteAt {w : Nat} {v v' : BitVec w} (n : Nat) (hw : w ≤ 8 * n)
    (h : ∀ j < n, byteAt v j = byteAt v' j) : v = v' := by
  refine BitVec.eq_of_getLsbD_eq fun i hi => ?_
  have hbit := congrArg (fun b : Byte => b.getLsbD (i % 8)) (h (i / 8) (by omega))
  have hmod : i % 8 < 8 := Nat.mod_lt _ (by decide)
  simpa [byteAt, hmod, Nat.div_add_mod] using hbit

/-- An array is determined by injective codes of its elements. -/
theorem vector_eq_of_getD {α β : Type} {n : Nat} {v v' : Vector α n} {d : α} (f : α → β) (hf : f.Injective)
    (h : ∀ j < n, f (v.toList.getD j d) = f (v'.toList.getD j d)) : v = v' := by
  refine Vector.ext fun i hi => hf ?_
  simpa [List.getD_eq_getElem, hi] using h i hi

/-- The code of a symbol determines it (10_state.md R26). -/
theorem Symbol.code_injective : Function.Injective Symbol.code := by
  intro x y h
  cases x <;> cases y <;> simp_all [Symbol.code]

theorem Mode.bit_injective : Function.Injective Mode.bit := by
  intro x y h
  cases x <;> cases y <;> simp_all [Mode.bit]

/-- The FLAGS byte determines the six flags (10_state.md R43). -/
theorem State.flags_of_flagsByte {s t : State} (h : s.flagsByte = t.flagsByte) : s.flags = t.flags := by
  have h6 := congrArg (BitVec.setWidth 6) h
  simpa [State.flagsByte] using h6

/-- Two rows hold the same bytes. -/
def RegRow.SameBytes (r r' : RegRow) : Prop := ∀ j < r.len, r.byte j = r'.byte j

theorem RegRow.sameBytes_one {base : Nat} {v v' : Byte} :
    RegRow.SameBytes (.one base v) (.one base v') ↔ v = v' :=
  ⟨fun h => h 0 Nat.one_pos, fun h _ _ => h⟩

theorem RegRow.sameBytes_field {w base len : Nat} {v v' : BitVec w} (hw : w ≤ 8 * len) :
    RegRow.SameBytes (.field base len v) (.field base len v') ↔ v = v' :=
  ⟨fun h => eq_of_byteAt len hw h, fun h _ _ => congrArg (byteAt · _) h⟩

theorem RegRow.sameBytes_slots {base : Nat} {v v' : Vector Byte 11} :
    RegRow.SameBytes ⟨base, 11, fun j => v.toList.getD j 0#8⟩ ⟨base, 11, fun j => v'.toList.getD j 0#8⟩ ↔ v = v' :=
  ⟨fun h => vector_eq_of_getD id Function.injective_id h, fun h _ _ => by rw [h]⟩

theorem RegRow.sameBytes_stream {base : Nat} {v v' : Vector Symbol 60} :
    RegRow.SameBytes ⟨base, 60, fun j => (v.toList.getD j .missing).code⟩
      ⟨base, 60, fun j => (v'.toList.getD j .missing).code⟩ ↔ v = v' :=
  ⟨fun h => vector_eq_of_getD Symbol.code Symbol.code_injective h, fun h _ _ => by rw [h]⟩

/-- The layout of the register map does not depend on the state. -/
theorem regMap_layout (c : Params) (s t : State) :
    (regMap c s).map (fun r => (r.base, r.len)) = (regMap c t).map (fun r => (r.base, r.len)) := rfl

/-- Where all registers read alike, the two register maps hold the same bytes row by row. -/
theorem regMap_sameBytes {s t : State} (h : ∀ a, readReg s a = readReg t a) :
    List.Forall₂ RegRow.SameBytes (regMap Config.block s) (regMap Config.block t) := by
  refine List.forall₂_iff_get.mpr ⟨rfl, fun k hs ht j hj => ?_⟩
  have hlayout := congrArg (·[k]?) (regMap_layout Config.block s t)
  simp only [List.getElem?_map, List.getElem?_eq_getElem hs, List.getElem?_eq_getElem ht, Option.map_some,
    Option.some.injEq, Prod.mk.injEq] at hlayout
  obtain ⟨hbase, hlen⟩ := hlayout
  have hread := h (BitVec.ofNat 8 (((regMap Config.block s)[k]'hs).base + j))
  rwa [readReg_row (List.getElem_mem hs) hj, hbase, readReg_row (List.getElem_mem ht) (hlen ▸ hj)] at hread

/-- The STATUS byte determines the stored bits it packs (10_state.md R34). -/
theorem State.fields_of_status {s t : State} (h : s.status = t.status) :
    s.acq.mode = t.acq.mode ∧ s.tod.hasFix = t.tod.hasFix ∧ s.tod.isLeapYear = t.tod.isLeapYear
      ∧ s.tod.isDst = t.tod.isDst ∧ s.tod.isLeapMinute = t.tod.isLeapMinute ∧ s.decRej = t.decRej
      ∧ s.error.err = t.error.err := by
  have hbit : ∀ i < 8, s.statusBits.getD i false = t.statusBits.getD i false := fun i hi => by
    rw [← State.getLsbD_status s i hi, ← State.getLsbD_status t i hi, h]
  exact ⟨Mode.bit_injective (hbit 0 (by omega)), hbit 1 (by omega), hbit 2 (by omega), hbit 3 (by omega),
    hbit 4 (by omega), hbit 6 (by omega), hbit 7 (by omega)⟩

/-- Settles O17: every field of the block is a row of the register map, or a bit of the STATUS row or of the FLAGS
row. -/
theorem registerSpaceShowsTheWholeBlock : Obligations.RegisterSpaceShowsTheWholeBlock := by
  intro s t h
  have hrows := regMap_sameBytes h
  simp (disch := decide) only [regMap, List.forall₂_cons, RegRow.sameBytes_one, RegRow.sameBytes_field,
    RegRow.sameBytes_slots, RegRow.sameBytes_stream] at hrows
  obtain ⟨hstatus, hflags, hticks, hseconds, hminutes, hhours, hday, hyear, hframe, hcal, hcause, hcmd, hscoreZ, hscoreO,
    hscoreM, hzV, hzI, hoV, hoI, hmV, hmI, hseek, hpeek, hmissed, hlast, hacc, htss, htsp, hscaled, -, -, hfrac,
    hperiod, hcompare, hsr, hzS, hoS, hmS, -, hstream, -⟩ := hrows
  obtain ⟨hmode, hfix, hleap, hdst, hleapMin, hrej, herr⟩ := State.fields_of_status hstatus
  refine ⟨hsr, ?score, ?board, hstream, hframe, ?acq, ?clock, ?tod, hrej, ?error, State.flags_of_flagsByte hflags, hcal⟩
  case score => exact (PerBoard.mk.injEq ..).mpr ⟨hscoreZ, hscoreO, hscoreM⟩
  case board =>
    exact (PerBoard.mk.injEq ..).mpr ⟨(Scoreboard.mk.injEq ..).mpr ⟨hzS, hzV, hzI⟩,
      (Scoreboard.mk.injEq ..).mpr ⟨hoS, hoV, hoI⟩, (Scoreboard.mk.injEq ..).mpr ⟨hmS, hmV, hmI⟩⟩
  case acq => exact (Acquisition.mk.injEq ..).mpr ⟨hmode, hseek, hpeek, hmissed, hlast, hacc, htss, htsp⟩
  case clock => exact (Clock.mk.injEq ..).mpr ⟨hscaled, hfrac, hperiod, hcompare⟩
  case tod =>
    exact (TimeOfDay.mk.injEq ..).mpr
      ⟨hticks, hseconds, hminutes, hhours, hday, hyear, hdst, hleapMin, hleap, hfix⟩
  case error => exact (ErrorRecord.mk.injEq ..).mpr ⟨herr, hcause, hcmd⟩

end Sys2Proof.Machine
end

/-! ## Proofs of the family 20_memory.md -/

/-! ### The total order of commands (20_memory.md R70, R71, R77) -/

section
namespace Sys2Proof.Machine

/-- No command alters what is still to be presented. -/
theorem exec_schedule {i : Instr} {s t : State} (h : exec i s = .next t) : t.schedule = s.schedule := by
  cases i with
  | tick b =>
    obtain ⟨-, -, hschedule⟩ := exec_tick_frame h
    exact hschedule
  | rd a => rw [exec_rd] at h; cases h; rfl
  | clrf m => rw [exec_clrf] at h; cases h; rfl
  | reset p => rw [exec_reset] at h; cases h; rfl

/-- No word alters what is still to be presented, legal or not. -/
theorem execute_schedule {w : CommandWord} {s t : State} (h : execute w s = .next t) : t.schedule = s.schedule := by
  obtain ⟨i, -, hx⟩ | ⟨k, -, rfl⟩ := execute_cases h
  · exact exec_schedule hx
  · exact s.raiseIllegal_schedule k w

/-- Settles O9: the idle step has nothing to take, and any other step takes the head before its word executes, which
leaves the rest (`execute_schedule`). -/
theorem commandsRunInTheirTotalOrder : Obligations.CommandsRunInTheirTotalOrder := by
  intro s t h
  obtain ⟨hs, rfl⟩ | ⟨p, rest, hs, -, hx⟩ := step_cases h
  · simp [hs]
  · simpa [hs] using execute_schedule hx

/-- A command presented before `cmd_done` stops the machine (70_reset_and_hazards.md R385). -/
theorem step_of_early {s : State} {p : Presentation} {rest : List Presentation} (hs : s.schedule = p :: rest)
    (he : p.early = true) : step s = .fault .earlyCommand := by
  simp [step, executeNext, executeNextBy, hs, he]

/-- Settles O10: an early presentation stops the machine whoever makes it, and of any other `State.accept` takes the
word and the record bytes, not the agent. -/
theorem issuerIsNotChecked : Obligations.IssuerIsNotChecked := by
  intro s p rest a
  by_cases he : p.early = true
  · have hstop (q : Presentation) (hq : q.early = true) :
        step { s with schedule := q :: rest } = .fault .earlyCommand := step_of_early rfl hq
    exact (hstop { p with agent := a } he).trans (hstop p he).symm
  · have hrun (q : Presentation) (hq : q.early = false) :
        step { s with schedule := q :: rest } = execute q.word (s.accept q rest) := step_of_presented rfl hq
    have hp : p.early = false := Bool.eq_false_of_not_eq_true he
    exact (hrun { p with agent := a } hp).trans (hrun p hp).symm

end Sys2Proof.Machine
end

/-! ### RD and the reserved addresses (20_memory.md R62, R69) -/

section
namespace Sys2Proof.Machine

/-- Settles O11: RD writes `rdata` and the strobes, and registers are read from the block alone (`readReg_congr`). -/
theorem readHasNoSideEffect : Obligations.ReadHasNoSideEffect := by
  intro a s
  have hsame : s.SameBlock (s.emitRdata (readReg s a)).complete :=
    ⟨rfl, rfl, rfl, rfl, rfl, rfl, rfl, rfl, rfl, rfl, rfl, rfl⟩
  exact ⟨_, exec_rd a s, rfl, hsame, rfl, fun a' => (readReg_congr hsame a').symm⟩

/-- No row of the register map reaches into a reserved range (20_memory.md R64): where the rows lie does not depend on
the state (`regMap_layout`). -/
theorem reservedRanges_disjoint_regMap {s : State} {r : RegRow} (hr : r ∈ regMap Config.block s) :
    ∀ ρ ∈ reservedRanges, ρ.2 < r.base ∨ r.base + r.len ≤ ρ.1 := by
  have hreset : ∀ l ∈ (regMap Config.block State.reset).map fun r => (r.base, r.len),
      ∀ ρ ∈ reservedRanges, ρ.2 < l.1 ∨ l.1 + l.2 ≤ ρ.1 := by decide
  rw [regMap_layout Config.block State.reset s] at hreset
  exact hreset (r.base, r.len) (List.mem_map_of_mem hr)

/-- A reserved address reads 0x00 (20_memory.md R62). -/
theorem readReg_reserved {a : Byte} (s : State) (h : ∃ ρ ∈ reservedRanges, ρ.1 ≤ a.toNat ∧ a.toNat ≤ ρ.2) :
    readReg s a = 0x00#8 := by
  obtain ⟨ρ, hρ, hlo, hhi⟩ := h
  have hnone : (regMap Config.block s).find? (RegRow.holds a.toNat) = none := by
    refine List.find?_eq_none.mpr fun r hr => ?_
    have hdisjoint := reservedRanges_disjoint_regMap hr ρ hρ
    simp only [RegRow.holds, Bool.and_eq_true, decide_eq_true_eq]
    omega
  simp [readReg, readRegWith, hnone]

/-- Settles O12: RD drives `rdata` with the register's byte, and at a reserved address that byte is 0x00. -/
theorem reservedAddressesReadZero : Obligations.ReservedAddressesReadZero := by
  intro a s ha
  refine ⟨_, exec_rd a s, ?_⟩
  rw [readReg_reserved s ha]
  exact ⟨rfl, rfl⟩

end Sys2Proof.Machine
end

/-! ### The rows of the register map (20_memory.md R64 to R66) -/

section
namespace Sys2Proof.Machine

/-- Bit `i` of byte `j` is bit `8j+i` of the field (20_memory.md R65). -/
theorem getLsbD_byteAt {w : Nat} (v : BitVec w) (j : Nat) {i : Nat} (hi : i < 8) :
    (byteAt v j).getLsbD i = v.getLsbD (8 * j + i) := by
  simp [byteAt, hi]

/-- Byte `j` of a field as arithmetic on its value. -/
theorem toNat_byteAt {w : Nat} (v : BitVec w) (j : Nat) : (byteAt v j).toNat = v.toNat / 2 ^ (8 * j) % 2 ^ 8 := by
  simp [byteAt, BitVec.extractLsb'_toNat, Nat.shiftRight_eq_div_pow]

/-- The registers at the row's addresses read the row's bytes. -/
def RegRow.ReadIn (s : State) (r : RegRow) : Prop := ∀ j < r.len, readReg s (BitVec.ofNat 8 (r.base + j)) = r.byte j

/-- Every row of the register map is read at its addresses (20_memory.md R64). -/
theorem regMap_readIn (s : State) : ∀ r ∈ regMap Config.block s, r.ReadIn s := fun _ hr _ hj => readReg_row hr hj

/-- A row of one address reads its byte. -/
theorem RegRow.readIn_one {s : State} {base : Nat} {v : Byte} :
    (RegRow.one base v).ReadIn s ↔ readReg s (BitVec.ofNat 8 base) = v := by
  simp [RegRow.ReadIn, RegRow.one]

/-- The row of a scoreboard reads its slots. -/
theorem RegRow.ReadIn.slots {s : State} {base : Nat} {v : Vector Byte 11}
    (h : RegRow.ReadIn s ⟨base, 11, fun j => v.toList.getD j 0#8⟩) (i : Fin 11) :
    readReg s (BitVec.ofNat 8 (base + i.val)) = v[i] :=
  (h i.val i.isLt).trans (by simp)

/-- The row of the stream reads the codes of its symbols (10_state.md R26). -/
theorem RegRow.ReadIn.stream {s : State} {base : Nat} {v : Vector Symbol 60}
    (h : RegRow.ReadIn s ⟨base, 60, fun j => (v.toList.getD j .missing).code⟩) (i : Fin 60) :
    readReg s (BitVec.ofNat 8 (base + i.val)) = v[i].code :=
  (h i.val i.isLt).trans (by simp)

/-! #### Rows of a field -/

section
variable {s : State} {w base len : Nat} {v : BitVec w}

/-- The row of a field reads the field's bytes. -/
theorem RegRow.ReadIn.field_byte (h : (RegRow.field base len v).ReadIn s) {j : Nat} (hj : j < len) :
    readReg s (BitVec.ofNat 8 (base + j)) = byteAt v j :=
  h j hj

/-- The bits that the row of a field reads (20_memory.md R65). -/
theorem RegRow.ReadIn.field_bit (h : (RegRow.field base len v).ReadIn s) (j : Fin len) (i : Fin 8) :
    (readReg s (BitVec.ofNat 8 (base + j.val))).getLsbD i.val = v.getLsbD (8 * j.val + i.val) := by
  rw [h.field_byte j.isLt, getLsbD_byteAt v j.val i.isLt]

/-- A consumer that assembles `n` bytes of a field's row, from its byte `j` on, gets bits `8(j+n)-1 : 8j` of the field
(20_memory.md R66). -/
theorem RegRow.ReadIn.field_part (h : (RegRow.field base len v).ReadIn s) {j n : Nat} (hjn : j + n ≤ len) :
    readField s (BitVec.ofNat 8 (base + j)) n = v.toNat / 2 ^ (8 * j) % 2 ^ (8 * n) := by
  induction n generalizing j with
  | zero => simp [readField, Nat.mod_one]
  | succ n ih =>
    have hnext : BitVec.ofNat 8 (base + j) + 1#8 = BitVec.ofNat 8 (base + (j + 1)) := (BitVec.ofNat_add _ _).symm
    have hdiv : v.toNat / 2 ^ (8 * j) / 2 ^ 8 = v.toNat / 2 ^ (8 * (j + 1)) := by
      rw [Nat.div_div_eq_div_mul, ← Nat.pow_add, Nat.mul_succ]
    calc readField s (BitVec.ofNat 8 (base + j)) (n + 1)
        = (byteAt v j).toNat + 256 * readField s (BitVec.ofNat 8 (base + (j + 1))) n := by
          rw [readField, h.field_byte (by omega), hnext]
      _ = v.toNat / 2 ^ (8 * j) % 2 ^ 8 + 2 ^ 8 * (v.toNat / 2 ^ (8 * j) / 2 ^ 8 % 2 ^ (8 * n)) := by
          rw [toNat_byteAt, ih (by omega), hdiv, show 2 ^ 8 = 256 from rfl]
      _ = v.toNat / 2 ^ (8 * j) % 2 ^ (8 * (n + 1)) := by
          rw [← Nat.mod_mul, ← Nat.pow_add, Nat.mul_succ, Nat.add_comm 8]

end

/-- All bytes of a field's row assemble to the field, the lowest address least significant (20_memory.md R66). -/
theorem RegRow.ReadIn.field_whole {s : State} {base len : Nat} {v : BitVec (8 * len)}
    (h : (RegRow.field base len v).ReadIn s) : readField s (BitVec.ofNat 8 base) len = v.toNat := by
  have hpart := h.field_part (j := 0) (n := len) (by omega)
  simpa [Nat.mod_eq_of_lt v.isLt] using hpart

/-- `CAL_OUT` as a number: the version in byte 0 and `SCALED` above it (48_calibration.md R303). -/
theorem Clock.toNat_calOut (k : Clock) : (k.calOut Config.block).toNat = k.scaled.toNat * 256 + 2 := by
  have hversion : (2#8).toNat < 2 ^ 8 := by decide
  rw [Clock.calOut, BitVec.toNat_append]
  exact (Nat.shiftLeft_add_eq_or_of_lt hversion _).symm.trans (by rw [Nat.shiftLeft_eq]; rfl)

/-- Settles O14: each of these registers is the row of its field, read whole by `RegRow.ReadIn.field_whole`; in the row
of `CAL_OUT` the version is byte 0 and `SCALED` the four bytes above it. -/
theorem multiByteFieldsAreLittleEndian : Obligations.MultiByteFieldsAreLittleEndian := by
  intro s
  have hrows := regMap_readIn s
  simp only [regMap, List.forall_mem_cons] at hrows
  obtain ⟨-, -, -, -, -, -, hday, hyear, -, -, -, hcmd, -, -, -, -, -, -, -, -, -, -, -, -, hlast, hacc, htss, htsp,
    hscaled, hwhole, -, -, hperiod, hcompare, -, -, -, -, hcal, -⟩ := hrows
  refine ⟨hday.field_whole, hyear.field_whole, hcmd.field_whole, ?acc, congrArg _ (RegRow.readIn_one.mp hlast),
    htss.field_whole, htsp.field_whole, hscaled.field_whole, ?whole, hperiod.field_whole, hcompare.field_whole,
    ?calVersion, ?calScaled⟩
  case acc =>
    have h : readField s 0x24#8 2 = s.acq.acc.toNat := hacc.field_whole
    rw [h, BitVec.ofNat_toNat, BitVec.setWidth_eq]
  case whole => exact hwhole.field_whole.trans (BitVec.toNat_ofNat _ _)
  case calVersion =>
    have h : readReg s 0x80#8 = byteAt (s.clock.calOut Config.block) 0 :=
      hcal.field_byte (j := 0) (by decide)
    rw [h]
    apply BitVec.eq_of_toNat_eq
    simp [toNat_byteAt, Clock.toNat_calOut]
  case calScaled =>
    have h : readField s 0x81#8 4 = (s.clock.calOut Config.block).toNat / 2 ^ 8 % 2 ^ 32 :=
      hcal.field_part (j := 1) (by decide)
    rw [h, Clock.toNat_calOut]
    omega

/-- Settles O15: SR and the templates are rows of ten bytes. -/
theorem sampleAndTemplateBytes : Obligations.SampleAndTemplateBytes := by
  intro s j i
  have hrow := regMap_readIn s
  exact ⟨(hrow (.field 0x40 10 s.sr) (by simp [regMap])).field_bit j i,
    (hrow (.field 0xE0 10 (template Config.block .Z)) (by simp [regMap])).field_bit j i,
    (hrow (.field 0xEA 10 (template Config.block .O)) (by simp [regMap])).field_bit j i,
    (hrow (.field 0xF4 10 (template Config.block .M)) (by simp [regMap])).field_bit j i⟩

/-- Settles O16: each register is a row of one address, and each array the row of its elements. -/
theorem oneByteRegisters : Obligations.OneByteRegisters := by
  intro s
  have hrows := regMap_readIn s
  simp only [regMap, List.forall_mem_cons, RegRow.readIn_one] at hrows
  obtain ⟨-, hflags, hticks, hseconds, hminutes, hhours, -, -, hframe, hcal, hcause, -, hscoreZ, hscoreO, hscoreM,
    hzV, hzI, hoV, hoI, hmV, hmI, hseek, hpeek, hmissed, -, -, -, -, -, -, hfrac, hfracAcc, -, -, -, hzS, hoS, hmS, -,
    hstream, -⟩ := hrows
  refine ⟨hflags, hticks, hseconds, hminutes, hhours, hframe, hcal, hcause, hscoreZ, hscoreO, hscoreM, hzV, hzI, hoV,
    hoI, hmV, hmI, hseek, hpeek, hmissed, ?frac, hfracAcc, fun i => ⟨hzS.slots i, hoS.slots i, hmS.slots i⟩,
    fun i => ?stream⟩
  case frac =>
    have hlt : s.clock.scaled.toNat % 64 < 2 ^ 8 := by omega
    rw [hfrac]
    exact (BitVec.toNat_ofNat _ _).trans (Nat.mod_eq_of_lt hlt)
  case stream =>
    rw [hstream.stream i]
    rfl

end Sys2Proof.Machine
end

/-! ## Proofs of the family 30_encoding.md -/

/-! ### The fields of a command word (30_encoding.md R91, R94 to R97) -/

section
namespace Sys2Proof.Machine

/-- A word is three fields put together exactly when each of them is the slice at its place. -/
theorem append_append_eq_iff {n m k : Nat} {a : BitVec n} {b : BitVec m} {c : BitVec k} {w : BitVec (n + m + k)} :
    a ++ b ++ c = w ↔ w.extractLsb' (m + k) n = a ∧ w.extractLsb' k m = b ∧ w.extractLsb' 0 k = c := by
  constructor
  · rintro rfl
    refine ⟨?high, ?middle, BitVec.extractLsb'_append_eq_right⟩
    case high => rw [BitVec.append_assoc, BitVec.extractLsb'_cast, BitVec.extractLsb'_append_eq_left]
    case middle => rw [BitVec.extractLsb'_append_eq_of_le le_rfl, Nat.sub_self, BitVec.extractLsb'_append_eq_right]
  · rintro ⟨rfl, rfl, rfl⟩
    rw [BitVec.append_assoc, BitVec.extractLsb'_append_extractLsb'_eq_extractLsb' (Nat.zero_add k).symm,
      BitVec.extractLsb'_append_extractLsb'_eq_extractLsb' (Nat.zero_add _).symm]
    ext i hi
    simp only [BitVec.getElem_cast, BitVec.getElem_extractLsb', Nat.zero_add, BitVec.getLsbD_eq_getElem hi]

/-- The lowest bit as a slice of width 1. -/
theorem extractLsb'_zero_one_eq_iff {n : Nat} {w : BitVec n} {b : Bool} :
    w.extractLsb' 0 1 = BitVec.ofBool b ↔ w.getLsbD 0 = b := by
  have hbit : w.extractLsb' 0 1 = BitVec.ofBool (w.getLsbD 0) := by
    ext i hi
    simp [Nat.lt_one_iff.mp hi]
  rw [hbit, BitVec.ofBool_eq_iff_eq]

/-- Masking with the bits from `k` up tests the slice from `k` up. -/
theorem and_allOnes_shiftLeft_eq_zero_iff {n : Nat} (x : BitVec n) (k : Nat) :
    x &&& (BitVec.allOnes n <<< k) = 0#n ↔ x.extractLsb' k (n - k) = 0#(n - k) := by
  constructor
  · intro h
    ext i hi
    have hbit := congrArg (BitVec.getLsbD · (k + i)) h
    have hlt : k + i < n := by omega
    simpa [hlt] using hbit
  · intro h
    ext i hi
    by_cases hk : i < k
    · simp [hk]
    · have hbit := congrArg (BitVec.getLsbD · (i - k)) h
      have hlt : i - k < n - k := by omega
      have hadd : k + (i - k) = i := by omega
      have hclear : x[i] = false := by simpa [hlt, hadd, hi] using hbit
      simp [hclear]

/-- Where the reserved bits are those from `k` up, the operand check tests the slice above the operand's `k` bits. -/
theorem operandLegal_eq_false_iff {w : CommandWord} {k : Nat} (h : reservedBits w.opcode = BitVec.allOnes 12 <<< k)
    (hk : k ≤ 12) : operandLegal w = false ↔ w.extractLsb' k (12 - k) ≠ 0#(12 - k) := by
  rw [operandLegal, h, beq_eq_false_iff_ne, Ne, and_allOnes_shiftLeft_eq_zero_iff,
    BitVec.extractLsb'_extractLsb'_of_le (by omega)]

/-- The opcodes of R93: each of the four commands' own, or a reserved one. -/
theorem opcode_cases (op : BitVec 4) :
    op = 0x1#4 ∨ op = 0x2#4 ∨ op = 0x3#4 ∨ op = 0xF#4 ∨ opcodeLegal op = false := by
  revert op; decide

/-- The reserved opcodes of R99, cause 1. -/
theorem opcodeLegal_eq_false_iff (op : BitVec 4) :
    opcodeLegal op = false ↔ op.toNat = 0 ∨ (4 ≤ op.toNat ∧ op.toNat ≤ 14) := by
  revert op; decide

end Sys2Proof.Machine
end

/-! ### The decoder and the encoder, one equation per opcode (30_encoding.md R93 to R99) -/

section
namespace Sys2Proof.Machine

/-- A reserved opcode is illegal whatever its operand. -/
theorem decode_of_reserved_opcode {w : CommandWord} (h : opcodeLegal w.opcode = false) :
    decode w = .error .reservedOpcode := by
  simp [decode, h]

/-- A word with TICK's opcode (R94). -/
theorem decode_of_tick_opcode {w : CommandWord} (h : w.opcode = 0x1#4) :
    decode w = if w.extractLsb' 1 11 = 0#11 then .ok (.tick (w.getLsbD 0)) else .error .reservedOperand := by
  have hres : operandLegal w = false ↔ w.extractLsb' 1 11 ≠ 0#11 :=
    operandLegal_eq_false_iff (k := 1) (by rw [h]; rfl) (by decide)
  simp [decode, h, opcodeLegal, hres]

/-- A word with RD's opcode (R95). -/
theorem decode_of_rd_opcode {w : CommandWord} (h : w.opcode = 0x2#4) :
    decode w = if w.extractLsb' 8 4 = 0#4 then .ok (.rd (w.extractLsb' 0 8)) else .error .reservedOperand := by
  have hres : operandLegal w = false ↔ w.extractLsb' 8 4 ≠ 0#4 :=
    operandLegal_eq_false_iff (k := 8) (by rw [h]; rfl) (by decide)
  simp [decode, h, opcodeLegal, hres]

/-- A word with CLRF's opcode (R96). -/
theorem decode_of_clrf_opcode {w : CommandWord} (h : w.opcode = 0x3#4) :
    decode w = if w.extractLsb' 6 6 = 0#6 then .ok (.clrf (w.extractLsb' 0 6)) else .error .reservedOperand := by
  have hres : operandLegal w = false ↔ w.extractLsb' 6 6 ≠ 0#6 :=
    operandLegal_eq_false_iff (k := 6) (by rw [h]; rfl) (by decide)
  simp [decode, h, opcodeLegal, hres]

/-- A word with RESET's opcode (R97). -/
theorem decode_of_reset_opcode {w : CommandWord} (h : w.opcode = 0xF#4) :
    decode w = if w.extractLsb' 1 11 = 0#11 then .ok (.reset (w.getLsbD 0)) else .error .reservedOperand := by
  have hres : operandLegal w = false ↔ w.extractLsb' 1 11 ≠ 0#11 :=
    operandLegal_eq_false_iff (k := 1) (by rw [h]; rfl) (by decide)
  simp [decode, h, opcodeLegal, hres]

/-- The words of TICK, field by field (R94). -/
theorem encode_tick_eq_iff {b : Bool} {w : CommandWord} :
    encode (.tick b) = w ↔ w.opcode = 0x1#4 ∧ w.extractLsb' 1 11 = 0#11 ∧ w.getLsbD 0 = b := by
  rw [← extractLsb'_zero_one_eq_iff]
  exact append_append_eq_iff

/-- The words of RD, field by field (R95). -/
theorem encode_rd_eq_iff {a : BitVec 8} {w : CommandWord} :
    encode (.rd a) = w ↔ w.opcode = 0x2#4 ∧ w.extractLsb' 8 4 = 0#4 ∧ w.extractLsb' 0 8 = a :=
  append_append_eq_iff

/-- The words of CLRF, field by field (R96). -/
theorem encode_clrf_eq_iff {m : BitVec 6} {w : CommandWord} :
    encode (.clrf m) = w ↔ w.opcode = 0x3#4 ∧ w.extractLsb' 6 6 = 0#6 ∧ w.extractLsb' 0 6 = m :=
  append_append_eq_iff

/-- The words of RESET, field by field (R97). -/
theorem encode_reset_eq_iff {p : Bool} {w : CommandWord} :
    encode (.reset p) = w ↔ w.opcode = 0xF#4 ∧ w.extractLsb' 1 11 = 0#11 ∧ w.getLsbD 0 = p := by
  rw [← extractLsb'_zero_one_eq_iff]
  exact append_append_eq_iff

end Sys2Proof.Machine
end

/-! ### Decode and encode agree, and which words are illegal (30_encoding.md R91 to R99) -/

section
namespace Sys2Proof.Machine

/-- The decoder reads a command's word back as the command. -/
theorem decode_encode (i : Instr) : decode (encode i) = .ok i := by
  cases i with
  | tick b =>
    obtain ⟨hop, hres, hb⟩ := (encode_tick_eq_iff (b := b)).mp rfl
    rw [decode_of_tick_opcode hop, if_pos hres, hb]
  | rd a =>
    obtain ⟨hop, hres, ha⟩ := (encode_rd_eq_iff (a := a)).mp rfl
    rw [decode_of_rd_opcode hop, if_pos hres, ha]
  | clrf m =>
    obtain ⟨hop, hres, hm⟩ := (encode_clrf_eq_iff (m := m)).mp rfl
    rw [decode_of_clrf_opcode hop, if_pos hres, hm]
  | reset p =>
    obtain ⟨hop, hres, hp⟩ := (encode_reset_eq_iff (p := p)).mp rfl
    rw [decode_of_reset_opcode hop, if_pos hres, hp]

/-- A legal word is the word of the command it decodes to: the decoder drops no bit. -/
theorem encode_of_decode {w : CommandWord} {i : Instr} (h : decode w = .ok i) : encode i = w := by
  obtain hop | hop | hop | hop | hop := opcode_cases w.opcode
  · rw [decode_of_tick_opcode hop] at h
    split_ifs at h with hres
    cases h
    exact encode_tick_eq_iff.mpr ⟨hop, hres, rfl⟩
  · rw [decode_of_rd_opcode hop] at h
    split_ifs at h with hres
    cases h
    exact encode_rd_eq_iff.mpr ⟨hop, hres, rfl⟩
  · rw [decode_of_clrf_opcode hop] at h
    split_ifs at h with hres
    cases h
    exact encode_clrf_eq_iff.mpr ⟨hop, hres, rfl⟩
  · rw [decode_of_reset_opcode hop] at h
    split_ifs at h with hres
    cases h
    exact encode_reset_eq_iff.mpr ⟨hop, hres, rfl⟩
  · simp [decode_of_reserved_opcode hop] at h

/-- Settles O1: a command's word has the command's fields (`decode_encode`), and a legal word's fields leave no bit
over (`encode_of_decode`). -/
theorem decodeAndEncodeAgree : Obligations.DecodeAndEncodeAgree :=
  ⟨decode_encode, fun _ _ => encode_of_decode⟩

/-- Cause 1 of R99 is the opcode check alone. -/
theorem decode_eq_reservedOpcode_iff {w : CommandWord} :
    decode w = .error .reservedOpcode ↔ opcodeLegal w.opcode = false := by
  refine ⟨fun h => ?_, decode_of_reserved_opcode⟩
  unfold decode at h
  split_ifs at h with hop
  · simpa using hop
  · cases h

/-- Cause 2 of R99: a legal opcode with a reserved operand bit set. -/
theorem decode_eq_reservedOperand_iff {w : CommandWord} :
    decode w = .error .reservedOperand ↔
      ((w.opcode.toNat = 1 ∨ w.opcode.toNat = 15) ∧ w.extractLsb' 1 11 ≠ 0#11)
        ∨ (w.opcode.toNat = 2 ∧ w.extractLsb' 8 4 ≠ 0#4)
        ∨ (w.opcode.toNat = 3 ∧ w.extractLsb' 6 6 ≠ 0#6) := by
  obtain hop | hop | hop | hop | hop := opcode_cases w.opcode
  · simp [decode_of_tick_opcode hop, hop]
  · simp [decode_of_rd_opcode hop, hop]
  · simp [decode_of_clrf_opcode hop, hop]
  · simp [decode_of_reset_opcode hop, hop]
  · have hnat := (opcodeLegal_eq_false_iff w.opcode).mp hop
    exact iff_of_false (by simp [decode_of_reserved_opcode hop]) (by omega)

/-- Settles O2: the two causes are the decoder's two checks, and an illegal word takes `State.raiseIllegal`, which
writes the error registers and the strobes alone. -/
theorem illegalWordsAndTheirEffect : Obligations.IllegalWordsAndTheirEffect := by
  intro w s
  refine ⟨decode_eq_reservedOpcode_iff.trans (opcodeLegal_eq_false_iff _), decode_eq_reservedOperand_iff, ?effect⟩
  intro cause hcause
  exact ⟨s.raiseIllegal cause w, execute_of_illegal hcause s, rfl⟩

/-- Settles O3: each of the six words is, bit by bit, the word of its command, and the decoder reads it back. -/
theorem writtenWordsDecode : Obligations.WrittenWordsDecode :=
  ⟨decode_encode (.tick true), decode_encode (.tick false), decode_encode (.rd 0x30#8), decode_encode (.clrf 0x11#6),
    decode_encode (.reset true), decode_encode (.reset false)⟩

end Sys2Proof.Machine
end

/-! ## Proofs of the family 40_sample_correlator.md -/

/-! ### The sample a TICK takes (40_sample_correlator.md R120) -/

section
namespace Sys2Proof.Machine

/-- The sample register, the scores and the boards after a TICK are those of its steps 2 to 4. -/
theorem exec_tick_takeSample {b : Bool} {s t : State} (h : exec (.tick b) s = .next t) :
    t.sr = srShift Config.block b s.sr ∧ t.score = (s.takeSample Config.block b).score
      ∧ t.board = (s.takeSample Config.block b).board := by
  obtain ⟨mid, hmid, rfl⟩ := exec_tick_next_iff.mp h
  obtain ⟨hsr, hscore, hboard, -, -, -, -⟩ := State.acquisitionTick_frame hmid
  rw [State.finishTick_eq]
  exact ⟨hsr, hscore, hboard⟩

/-- Above the new bit 0, a shift that keeps `n` bits shows each bit one place higher. -/
theorem getLsbD_concat_setWidth_succ {w n i : Nat} (v : BitVec w) (b : Bool) (hi : i < n) :
    ((v.setWidth n).concat b).getLsbD (i + 1) = v.getLsbD i := by
  rw [BitVec.getLsbD_concat_succ, BitVec.getLsbD_setWidth, decide_eq_true hi, Bool.true_and]

/-- The shift of the specified hardware puts the sample below the 79 newest bits. -/
theorem srShift_block (b : Bool) (sr : SampleWord) : srShift Config.block b sr = (sr.setWidth 79).concat b :=
  keepBits_block _

theorem getLsbD_srShift_zero (b : Bool) (sr : SampleWord) : (srShift Config.block b sr).getLsbD 0 = b := by
  rw [srShift_block, BitVec.getLsbD_concat_zero]

theorem getLsbD_srShift_succ (b : Bool) (sr : SampleWord) {i : Nat} (hi : i < 79) :
    (srShift Config.block b sr).getLsbD (i + 1) = sr.getLsbD i := by
  rw [srShift_block, getLsbD_concat_setWidth_succ sr b hi]

theorem getLsbD_rotateByte_zero (carry : Bool) (v : Byte) : (rotateByte carry v).getLsbD 0 = carry :=
  BitVec.getLsbD_concat_zero

theorem getLsbD_rotateByte_succ (carry : Bool) (v : Byte) {i : Nat} (hi : i < 7) :
    (rotateByte carry v).getLsbD (i + 1) = v.getLsbD i :=
  getLsbD_concat_setWidth_succ v carry hi

/-- Bit 0 of byte `j` is the sample or the top bit of the byte below, and each other bit the one under it. -/
theorem byteAt_srShift (b : Bool) (sr : SampleWord) {j : Nat} (hj : j < 10) :
    byteAt (srShift Config.block b sr) j = srShiftByte b sr j := by
  refine BitVec.eq_of_getLsbD_eq fun i hi => ?_
  rw [getLsbD_byteAt _ j hi, srShiftByte]
  cases i with
  | zero =>
    rw [getLsbD_rotateByte_zero]
    cases j with
    | zero => exact getLsbD_srShift_zero b sr
    | succ j =>
      rw [if_neg j.succ_ne_zero, Nat.add_sub_cancel, getLsbD_byteAt sr j (by decide)]
      exact getLsbD_srShift_succ b sr (i := 8 * j + 7) (by omega)
  | succ i =>
    rw [getLsbD_rotateByte_succ _ _ (by omega), getLsbD_byteAt sr j (by omega)]
    exact getLsbD_srShift_succ b sr (i := 8 * j + i) (by omega)

/-- Settles O24: TICK shifts the register (`exec_tick_takeSample`), and the byte-wise shift has the same bits
(`byteAt_srShift`). -/
theorem tickShiftsTheSampleIn : Obligations.TickShiftsTheSampleIn := by
  refine ⟨fun b s t h => ?_, fun b sr j => byteAt_srShift b sr j.isLt⟩
  obtain ⟨hsr, -, -⟩ := exec_tick_takeSample h
  rw [hsr]
  exact ⟨getLsbD_srShift_zero b s.sr, fun i => getLsbD_srShift_succ b s.sr i.isLt⟩

end Sys2Proof.Machine
end

/-! ### The number of 1 bits (00_scope.md R11) -/

section
namespace Sys2Proof.Machine

variable {w : Nat}

theorem popcount_add_popcount_not (v : BitVec w) : popcount v + popcount (~~~v) = w := by
  have hnot : popcount (~~~v) = (List.range w).countP fun i => !v.getLsbD i :=
    List.countP_congr fun i hi => by simp [List.mem_range.mp hi]
  have hsplit := List.length_eq_countP_add_countP (fun i => v.getLsbD i) (l := List.range w)
  rw [hnot, popcount]
  simpa using hsplit.symm

theorem popcount_eq_zero_iff {v : BitVec w} : popcount v = 0 ↔ v = 0#w := by
  constructor
  · intro h
    refine BitVec.eq_of_getLsbD_eq fun i hi => ?_
    simpa using List.countP_eq_zero.mp h i (List.mem_range.mpr hi)
  · rintro rfl
    simp [popcount]

/-- The equal bits of two words are the 1 bits of the complement of their XOR. -/
theorem popcount_not_xor (u v : BitVec w) :
    popcount (~~~(u ^^^ v)) = (List.range w).countP fun i => u.getLsbD i == v.getLsbD i :=
  List.countP_congr fun i hi => by simp [List.mem_range.mp hi]

theorem popcount_not_xor_eq_width_iff {u v : BitVec w} : popcount (~~~(u ^^^ v)) = w ↔ u = v := by
  have hsum := popcount_add_popcount_not (u ^^^ v)
  calc popcount (~~~(u ^^^ v)) = w
    _ ↔ popcount (u ^^^ v) = 0 := by omega
    _ ↔ u = v := popcount_eq_zero_iff.trans BitVec.xor_eq_zero_iff

theorem popcount_not_xor_eq_zero_iff {u v : BitVec w} : popcount (~~~(u ^^^ v)) = 0 ↔ u = ~~~v := by
  rw [BitVec.not_xor_right, popcount_eq_zero_iff, BitVec.xor_eq_zero_iff]

/-- A count over `m * n` numbers is the sum of the counts over the `n` blocks of `m`. -/
theorem countP_range_mul (m n : Nat) (p : Nat → Bool) :
    (List.range (m * n)).countP p = ((List.range n).map fun j => (List.range m).countP fun i => p (m * j + i)).sum := by
  induction n with
  | zero => rfl
  | succ n ih =>
    rw [Nat.mul_succ, List.range_add, List.countP_append, ih, List.countP_map, List.range_succ, List.map_append,
      List.sum_append]
    simp [Function.comp_def]

/-- The 1 bits of a word of `n` bytes are those of its bytes. -/
theorem popcount_eq_sum_byteAt {n : Nat} (v : BitVec (8 * n)) :
    popcount v = ((List.range n).map fun j => popcount (byteAt v j)).sum := by
  have hlane : ∀ j, popcount (byteAt v j) = (List.range 8).countP fun i => v.getLsbD (8 * j + i) := fun j =>
    List.countP_congr fun i hi => by rw [getLsbD_byteAt v j (List.mem_range.mp hi)]
  simp only [hlane]
  exact countP_range_mul 8 n fun i => v.getLsbD i

end Sys2Proof.Machine
end

/-! ### The correlator score (40_sample_correlator.md R124, R125) -/

section
namespace Sys2Proof.Machine

/-- The score of the specified hardware as one popcount: subtracting from 80 complements the XOR. -/
theorem matchingBits_eq_popcount (k : Board) (sr : SampleWord) :
    matchingBits Config.block k sr = popcount (~~~(sr ^^^ template Config.block k)) := by
  have hsum := popcount_add_popcount_not (sr ^^^ template Config.block k)
  rw [matchingBits_block]
  omega

/-- The stored score loses nothing: at most 80, it fits its byte. -/
theorem corrScore_toNat (k : Board) (sr : SampleWord) :
    (corrScore Config.block k sr).toNat = popcount (~~~(sr ^^^ template Config.block k)) := by
  have hsum := popcount_add_popcount_not (sr ^^^ template Config.block k)
  rw [corrScore, matchingBits_eq_popcount, trunc8, BitVec.toNat_ofNat]
  omega

/-- Settles O26: the score is a popcount (`corrScore_toNat`), which counts the equal bits, and step 3 of TICK scores the
register that step 2 left. -/
theorem scoreCountsMatchingBits : Obligations.ScoreCountsMatchingBits := by
  refine ⟨fun k sr => ⟨?count, corrScore_le k sr, ?full, ?complement⟩, fun b s t h k => ?stored⟩
  case count => rw [corrScore_toNat, popcount_not_xor]
  case full => rw [corrScore_toNat, popcount_not_xor_eq_width_iff]
  case complement => rw [corrScore_toNat, popcount_not_xor_eq_zero_iff]
  case stored =>
    obtain ⟨hsr, hscore, -⟩ := exec_tick_takeSample h
    obtain ⟨hk, -⟩ := State.takeSample_board Config.block b s k
    rw [hsr, hscore, hk]

/-- XOR and complement act in each byte lane alone. -/
theorem byteAt_not_xor (u v : SampleWord) {j : Nat} (hj : j < 10) :
    byteAt (~~~(u ^^^ v)) j = ~~~(byteAt u j ^^^ byteAt v j) := by
  refine BitVec.eq_of_getLsbD_eq fun i hi => ?_
  have hbit : 8 * j + i < 80 := by omega
  simp only [getLsbD_byteAt _ j hi, BitVec.getLsbD_not, BitVec.getLsbD_xor, hi, hbit]

/-- Settles O27: the 80-bit popcount is the sum of its ten lanes' (`popcount_eq_sum_byteAt`). -/
theorem bytewiseScoreAgrees : Obligations.BytewiseScoreAgrees := by
  intro k sr
  rw [corrScore_toNat, popcount_eq_sum_byteAt (n := 10), scoreBytewise]
  exact congrArg List.sum (List.map_congr_left fun j hj =>
    congrArg popcount (byteAt_not_xor sr (template Config.block k) (List.mem_range.mp hj)).symm)

end Sys2Proof.Machine
end

/-! ### The templates and a clean second (40_sample_correlator.md R122, R129) -/

section
namespace Sys2Proof.Machine

/-- In the specified hardware a template is its 80-bit value. -/
theorem template_block (k : Board) : template Config.block k = templateValue Config.block k := keepBits_block _

/-- Settles O25: each template is the value of R122, and its bits and popcount are read off that value. -/
theorem templateContents : Obligations.TemplateContents := by
  unfold Obligations.TemplateContents
  simp only [template_block]
  refine ⟨?bits, rfl, rfl, rfl, ?popcounts⟩
  case bits => decide +kernel
  case popcounts => decide +kernel

/-- Every symbol starts high for 10 samples and ends low for 10. -/
theorem Board.pulse_bounds (k : Board) : 10 ≤ k.pulse ∧ k.pulse ≤ 50 := by cases k <;> decide

/-- At the alignment tick the window shows ten low samples of the second before and ten high ones of the next, whatever
symbols these carry. -/
theorem cleanWindow_neighbours (before this next : Board) : cleanWindow before this next = cleanWindow .Z this .Z := by
  refine congrArg (fun samples => (BitVec.ofBoolListBE samples).setWidth 80) (List.map_congr_left fun n hn => ?_)
  obtain ⟨-, hbefore⟩ := before.pulse_bounds
  obtain ⟨hnext, -⟩ := next.pulse_bounds
  have hlast : n < 80 := List.mem_range.mp hn
  have hZ : Board.Z.pulse = 12 := rfl
  split_ifs
  · exact decide_eq_decide.mpr (by omega)
  · rfl
  · exact decide_eq_decide.mpr (by omega)

/-- Settles O28: the neighbours do not matter (`cleanWindow_neighbours`), so three windows are scored. -/
theorem cleanSecondScores : Obligations.CleanSecondScores := by
  intro before _ next _
  rw [cleanWindow_neighbours before .Z next, cleanWindow_neighbours before .O next,
    cleanWindow_neighbours before .M next]
  decide +kernel

end Sys2Proof.Machine
end

/-! ## Proofs of the family 41_scoreboard.md -/

/-! ### The peak of a board's slots (41_scoreboard.md R140, R141) -/

section
namespace Sys2Proof.Machine

/-- `v` is the maximum of the slots, and `i` the most recent slot that holds it (R141, LOWEST). -/
structure PeakAt (slots : Vector Byte 11) (v : Byte) (i : Fin 11) : Prop where
  slot_eq : slots[i] = v
  le_value : ∀ j : Fin 11, slots[j].toNat ≤ v.toNat
  lt_value : ∀ j : Fin 11, j < i → slots[j].toNat < v.toNat

/-- A board's cache is right exactly when it names the peak of the board's slots. -/
theorem Scoreboard.peakCached_iff {b : Scoreboard} :
    b.PeakCached ↔ ∃ top : Fin 11, b.peakI.toNat = top.val ∧ PeakAt b.slots b.peakV top := by
  have hslot : ∀ i : Fin 11, b.slots.toList.getD i.val 0#8 = b.slots[i] := fun i => by
    rw [List.getD_eq_getElem _ _ (by simp)]
    simp
  constructor
  · rintro ⟨hi, hat, hmax, hrecent⟩
    exact ⟨⟨b.peakI.toNat, hi⟩, rfl, (hslot ⟨_, hi⟩).symm.trans hat, hmax, hrecent⟩
  · rintro ⟨top, hi, hat, hmax, hrecent⟩
    rw [Scoreboard.PeakCached, hi]
    exact ⟨top.isLt, (hslot top).trans hat, hmax, hrecent⟩

/-- Slots have one peak. -/
theorem PeakAt.unique {slots : Vector Byte 11} {v w : Byte} {i j : Fin 11} (hv : PeakAt slots v i)
    (hw : PeakAt slots w j) : v = w ∧ i = j := by
  have hle : v.toNat ≤ w.toNat := hv.slot_eq ▸ hw.le_value i
  have hge : w.toNat ≤ v.toNat := hw.slot_eq ▸ hv.le_value j
  obtain rfl : v = w := BitVec.eq_of_toNat_eq (Nat.le_antisymm hle hge)
  refine ⟨rfl, le_antisymm (not_lt.mp fun h => ?_) (not_lt.mp fun h => ?_)⟩
  · exact (hv.lt_value j h).ne (congrArg BitVec.toNat hw.slot_eq)
  · exact (hw.lt_value i h).ne (congrArg BitVec.toNat hv.slot_eq)

/-- A right cache holds the peak of the slots, however that peak was found. -/
theorem Scoreboard.PeakCached.eq_of_peakAt {b : Scoreboard} {v : Byte} {i : Fin 11} (h : b.PeakCached)
    (hp : PeakAt b.slots v i) : b.peakV = v ∧ b.peakI.toNat = i.val := by
  obtain ⟨top, htop, hpeak⟩ := Scoreboard.peakCached_iff.mp h
  obtain ⟨hvalue, rfl⟩ := hpeak.unique hp
  exact ⟨hvalue, htop⟩

/-- A score that reaches every slot that stays is the new peak, at slot 0. -/
theorem PeakAt.shift_new {slots : Vector Byte 11} {v : Byte} (h : ∀ j : Fin 10, slots[j.castSucc].toNat ≤ v.toNat) :
    PeakAt (shiftSlots Config.block v slots) v 0 where
  slot_eq := shiftSlots_zero _ v slots
  le_value j := by
    cases j using Fin.cases with
    | zero => rw [shiftSlots_zero]
    | succ j => rw [shiftSlots_succ]; exact h j
  lt_value j hj := absurd hj (Fin.not_lt_zero j)

/-- Under a smaller score a peak that stays on the board grows one slot older. -/
theorem PeakAt.shift_old {slots : Vector Byte 11} {v w : Byte} {i : Fin 10} (h : PeakAt slots w i.castSucc)
    (hv : v.toNat < w.toNat) : PeakAt (shiftSlots Config.block v slots) w i.succ where
  slot_eq := (shiftSlots_succ v slots i).trans h.slot_eq
  le_value j := by
    cases j using Fin.cases with
    | zero => rw [shiftSlots_zero]; exact hv.le
    | succ j => rw [shiftSlots_succ]; exact h.le_value j.castSucc
  lt_value j hj := by
    cases j using Fin.cases with
    | zero => rw [shiftSlots_zero]; exact hv
    | succ j => rw [shiftSlots_succ]; exact h.lt_value j.castSucc (Fin.succ_lt_succ_iff.mp hj)

/-- Each board after a TICK is the board before it with its new score shifted in. -/
theorem exec_tick_board {b : Bool} {s t : State} (h : exec (.tick b) s = .next t) (k : Board) :
    t.board.get k = (s.board.get k).shift Config.block (t.score.get k) := by
  obtain ⟨-, hscore, hboard⟩ := exec_tick_takeSample h
  obtain ⟨hv, hk⟩ := State.takeSample_board Config.block b s k
  rw [hscore, hboard, hv, hk]

/-- Settles O29: the shift moves the slots, and the cache it leaves is right (`Scoreboard.shift_spec`). -/
theorem tickShiftsTheBoards : Obligations.TickShiftsTheBoards := by
  intro b s t h k
  rw [exec_tick_board h k]
  obtain ⟨hslots, hcached⟩ := Scoreboard.shift_spec (t.score.get k) (s.board.get k)
  obtain ⟨top, htop, hat, hmax, hrecent⟩ := Scoreboard.peakCached_iff.mp hcached
  refine ⟨?_, fun i => ?_, top, htop, hat, hmax, hrecent⟩
  · rw [hslots, shiftSlots_zero]
  · rw [hslots, shiftSlots_succ]

end Sys2Proof.Machine
end

/-! ### The peak under every tie rule (41_scoreboard.md R141) -/

section
namespace Sys2Proof.Machine

/-- `p` is a value and an index: the maximum of the slots, and a slot that holds it. -/
structure MaximalAt (slots : List Byte) (p : Byte × Nat) : Prop where
  slot_eq : slots[p.2]? = some p.1
  le_value : ∀ x ∈ slots, x.toNat ≤ p.1.toNat

/-- The maximum so far stays one when a slot that does not exceed it is scanned. -/
theorem MaximalAt.concat_old {slots : List Byte} {p : Byte × Nat} {v : Byte} (h : MaximalAt slots p)
    (hv : v.toNat ≤ p.1.toNat) : MaximalAt (slots ++ [v]) p where
  slot_eq := by
    obtain ⟨hlt, -⟩ := List.getElem?_eq_some_iff.mp h.slot_eq
    rw [List.getElem?_append_left hlt, h.slot_eq]
  le_value x hx := by
    rcases List.mem_append.mp hx with hx | hx
    · exact h.le_value x hx
    · rwa [List.mem_singleton.mp hx]

/-- A scanned slot that reaches the maximum so far is a maximum itself. -/
theorem MaximalAt.concat_new {slots : List Byte} {p : Byte × Nat} {v : Byte} (h : MaximalAt slots p)
    (hv : p.1.toNat ≤ v.toNat) : MaximalAt (slots ++ [v]) (v, slots.length) where
  slot_eq := List.getElem?_concat_length
  le_value x hx := by
    rcases List.mem_append.mp hx with hx | hx
    · exact (h.le_value x hx).trans hv
    · rw [List.mem_singleton.mp hx]

/-- The HIGHEST scan over the slots `vs` extends a maximum of the slots scanned before them. -/
theorem MaximalAt.peakScanHighest {seen : List Byte} {best : Byte × Nat} (vs : List Byte) (h : MaximalAt seen best) :
    MaximalAt (seen ++ vs) (peakScanHighest vs seen.length best) := by
  induction vs generalizing seen best with
  | nil => rwa [List.append_nil]
  | cons v vs ih =>
    have hstep : MaximalAt (seen ++ [v]) (if best.1.toNat ≤ v.toNat then (v, seen.length) else best) := by
      split
      case isTrue hle => exact h.concat_new hle
      case isFalse hlt => exact h.concat_old (Nat.le_of_not_le hlt)
    have hrest := ih hstep
    rwa [List.append_assoc, List.length_append, List.length_singleton, List.singleton_append] at hrest

/-- The listed indices are those of the slots that hold `v`. -/
theorem mem_indicesOf {v : Byte} {slots : List Byte} {i n : Nat} :
    n ∈ indicesOf v slots i ↔ ∃ j, n = i + j ∧ slots[j]? = some v := by
  induction slots generalizing i with
  | nil => simp [indicesOf]
  | cons x xs ih =>
    rw [indicesOf, ← Nat.or_exists_add_one]
    have hlater : (∃ j, n = i + (j + 1) ∧ (x :: xs)[j + 1]? = some v) ↔ n ∈ indicesOf v xs (i + 1) := by
      simp only [ih, List.getElem?_cons_succ, Nat.add_assoc, Nat.add_comm 1]
    rw [hlater]
    split
    case isTrue hx => simp [hx]
    case isFalse hx => simp [hx]

/-- An index drawn modulo the length of a non-empty list names one of its elements. -/
theorem getD_mod_length_mem {l : List Nat} (hl : l ≠ []) (n : Nat) : l.getD (n % l.length) 0 ∈ l := by
  rw [List.getD_eq_getElem _ _ (Nat.mod_lt n (List.length_pos_of_ne_nil hl))]
  exact List.getElem_mem _

/-- Whatever the tie rule, the peak of a board's slots is a maximum at a slot that holds it. -/
theorem maximalAt_peakOf (tie : PeakTie) (old : Nat) {slots : List Byte} (hne : slots ≠ []) :
    MaximalAt slots (peakOf tie old slots) := by
  obtain ⟨v, vs, rfl⟩ := List.exists_cons_of_ne_nil hne
  have hlowest : MaximalAt (v :: vs) (peakOf .lowest old (v :: vs)) := by
    obtain ⟨hlt, hat, hmax, -⟩ := peakOf_lowest_spec v vs old _ rfl
    refine ⟨?_, hmax⟩
    rw [List.getElem?_eq_getElem hlt, ← List.getD_eq_getElem _ 0#8 hlt, hat]
  cases tie with
  | lowest => exact hlowest
  | highest =>
    have hfirst : MaximalAt [v] (v, 0) := ⟨rfl, by simp⟩
    exact hfirst.peakScanHighest vs
  | any =>
    have hheld : (peakOf .lowest old (v :: vs)).2 ∈ indicesOf (peakOf .lowest old (v :: vs)).1 (v :: vs) 0 :=
      mem_indicesOf.mpr ⟨_, (Nat.zero_add _).symm, hlowest.slot_eq⟩
    obtain ⟨j, hj, hslot⟩ := mem_indicesOf.mp
      (getD_mod_length_mem (List.ne_nil_of_mem hheld) (Config.peakDraw (v :: vs) old))
    have hdrawn : (peakOf .any old (v :: vs)).2 = j := hj.trans (Nat.zero_add j)
    exact ⟨hdrawn ▸ hslot, hlowest.le_value⟩

theorem Scoreboard.slots_ne_nil (b : Scoreboard) : b.slots.toList ≠ [] :=
  List.ne_nil_of_length_pos (by rw [Vector.length_toList]; decide)

/-- In the specified hardware, under any tie rule, a peak update scans all eleven slots, and the index fits its byte. -/
theorem Scoreboard.peakUpdate_eq_peakOf (tie : PeakTie) (b : Scoreboard) :
    (b.peakUpdate { Config.block with peakTie := tie }).peakV = (peakOf tie b.peakI.toNat b.slots.toList).1
      ∧ (b.peakUpdate { Config.block with peakTie := tie }).peakI.toNat
        = (peakOf tie b.peakI.toNat b.slots.toList).2 := by
  have hactive : b.activeSlots { Config.block with peakTie := tie } = b.slots.toList := b.activeSlots_block
  obtain ⟨hlt, -⟩ := List.getElem?_eq_some_iff.mp (maximalAt_peakOf tie b.peakI.toNat b.slots_ne_nil).slot_eq
  rw [Vector.length_toList] at hlt
  rw [Scoreboard.peakUpdate, hactive]
  exact ⟨rfl, Nat.mod_eq_of_lt (hlt.trans (by decide))⟩

/-- Settles O30: the scan of all slots names a maximal one under each tie rule (`maximalAt_peakOf`). -/
theorem everyTieRuleNamesAMaximalSlot : Obligations.EveryTieRuleNamesAMaximalSlot := by
  intro tie b
  obtain ⟨hvalue, hindex⟩ := b.peakUpdate_eq_peakOf tie
  have hpeak := maximalAt_peakOf tie b.peakI.toNat b.slots_ne_nil
  obtain ⟨hlt, hslot⟩ := List.getElem?_eq_some_iff.mp hpeak.slot_eq
  rw [hvalue, hindex]
  refine ⟨⟨_, hlt.trans_eq (by rw [Vector.length_toList])⟩, rfl, hslot, fun i => hpeak.le_value _ ?_⟩
  exact Vector.mem_toList_iff.mpr (Vector.getElem_mem i.isLt)

end Sys2Proof.Machine
end

/-! ### Shifts that keep a peak (41_scoreboard.md R142, R145) -/

section
namespace Sys2Proof.Machine

/-- Settles O31, by the three branches of the incremental update: a new maximum (`PeakAt.shift_new`), an evicted one,
where both scan, and one that stays (`PeakAt.shift_old`). -/
theorem incrementalPeakAgrees : Obligations.IncrementalPeakAgrees := by
  intro b v hb
  obtain ⟨hslots, hcached⟩ := Scoreboard.shift_spec v b
  obtain ⟨top, htop, hpeak⟩ := Scoreboard.peakCached_iff.mp hb
  rw [Scoreboard.peakIncremental]
  split_ifs with hnew hevicted
  · exact hcached.eq_of_peakAt (i := 0) (hslots ▸ PeakAt.shift_new fun j => (hpeak.le_value j.castSucc).trans hnew)
  · rw [Scoreboard.activeSlots_block]
    exact Scoreboard.peakUpdate_eq_peakOf .lowest { b with slots := shiftSlots Config.block v b.slots }
  · rw [activeLen_block] at hevicted
    obtain ⟨i, rfl⟩ : ∃ i : Fin 10, i.castSucc = top := ⟨⟨top.val, by omega⟩, rfl⟩
    rw [htop]
    exact hcached.eq_of_peakAt (hslots ▸ hpeak.shift_old (Nat.lt_of_not_le hnew))

theorem Scoreboard.shiftAll_append (c : Params) (vs ws : List Byte) (b : Scoreboard) :
    b.shiftAll c (vs ++ ws) = (b.shiftAll c vs).shiftAll c ws := by
  induction vs generalizing b with
  | nil => rfl
  | cons v vs ih => exact ih _

/-- Shifts keep a right cache right. -/
theorem Scoreboard.PeakCached.shiftAll {b : Scoreboard} (h : b.PeakCached) (vs : List Byte) :
    (b.shiftAll Config.block vs).PeakCached := by
  induction vs generalizing b with
  | nil => exact h
  | cons v vs ih => exact ih (Scoreboard.shift_spec v b).2

/-- As scores below `w` are shifted in, more and more of the recent slots are below `w`. -/
theorem Scoreboard.shiftAll_lt {w : Byte} {vs : List Byte} (hvs : ∀ x ∈ vs, x.toNat < w.toNat) {n : Nat}
    {b : Scoreboard} (hb : ∀ j : Fin 11, j.val < n → b.slots[j].toNat < w.toNat) (j : Fin 11)
    (hj : j.val < n + vs.length) : (b.shiftAll Config.block vs).slots[j].toNat < w.toNat := by
  induction vs generalizing b n with
  | nil => exact hb j hj
  | cons v vs ih =>
    obtain ⟨hv, hvs⟩ := List.forall_mem_cons.mp hvs
    have hlen : n + (v :: vs).length = n + 1 + vs.length := by rw [List.length_cons]; omega
    refine ih hvs (n := n + 1) (fun i hi => ?_) (hlen ▸ hj)
    rw [(Scoreboard.shift_spec v b).1]
    cases i using Fin.cases with
    | zero => rwa [shiftSlots_zero]
    | succ i => rw [shiftSlots_succ]; exact hb i.castSucc (Nat.succ_lt_succ_iff.mp hi)

/-- Smaller scores carry a peak one slot further each, as long as it stays on the board. -/
theorem PeakAt.shiftAll {b : Scoreboard} {w : Byte} {i top : Fin 11} {vs : List Byte} (h : PeakAt b.slots w i)
    (hvs : ∀ x ∈ vs, x.toNat < w.toNat) (htop : top.val = i.val + vs.length) :
    PeakAt (b.shiftAll Config.block vs).slots w top := by
  induction vs generalizing b i with
  | nil =>
    obtain rfl : top = i := Fin.ext htop
    exact h
  | cons v vs ih =>
    obtain ⟨hv, hvs⟩ := List.forall_mem_cons.mp hvs
    rw [List.length_cons] at htop
    obtain ⟨j, rfl⟩ : ∃ j : Fin 10, j.castSucc = i := ⟨⟨i.val, by omega⟩, rfl⟩
    refine ih (i := j.succ) ?_ hvs (by rw [htop, Fin.val_succ, Fin.val_castSucc]; omega)
    rw [(Scoreboard.shift_spec v b).1]
    exact h.shift_old hv

/-- Settles O32: ten smaller scores make `v` the peak at slot 0 (`Scoreboard.shiftAll_lt`, `PeakAt.shift_new`), and each
smaller score after it carries it one slot further (`PeakAt.shiftAll`). -/
theorem isolatedPeakPassesTheCentreOnce : Obligations.IsolatedPeakPassesTheCentreOnce := by
  intro b before after v hten hafter hbelow hbelow'
  obtain ⟨hslots, hcached⟩ := Scoreboard.shift_spec v (b.shiftAll Config.block before)
  have hnew : PeakAt ((b.shiftAll Config.block before).shift Config.block v).slots v 0 :=
    hslots ▸ PeakAt.shift_new fun j =>
      (Scoreboard.shiftAll_lt hbelow (n := 0) (fun _ hj => absurd hj (Nat.not_lt_zero _)) j.castSucc
        (by rw [hten, Fin.val_castSucc]; omega)).le
  have hpeak := hnew.shiftAll hbelow' (top := ⟨after.length, by omega⟩) (Nat.zero_add _).symm
  obtain ⟨hvalue, hindex⟩ := (hcached.shiftAll after).eq_of_peakAt hpeak
  rw [Scoreboard.shiftAll_append]
  refine ⟨hindex, hvalue, ?_⟩
  have hcentre : Config.block.center = 5 := rfl
  rw [Scoreboard.aligned, beq_iff_eq, hcentre]
  exact hindex ▸ Iff.rfl

end Sys2Proof.Machine
end

/-! ## Proofs of the family 42_symbol_detector.md -/

/-! ### What the detectors read of a board (42_symbol_detector.md R161, R163, R164) -/

section
namespace Sys2Proof.Machine

/-- The comparison with the threshold is strict: 69 does not qualify, 70 does. -/
@[simp] theorem Scoreboard.qualifies_block_iff (b : Scoreboard) :
    b.qualifies Config.block = true ↔ 69 < b.peakV.toNat := by
  have hthreshold : Config.block.scoreThreshold = 69 := rfl
  rw [Scoreboard.qualifies, Scoreboard.maxOver, hthreshold]
  split <;> simp [*]

@[simp] theorem Scoreboard.aligned_block_iff (b : Scoreboard) :
    b.aligned Config.block = true ↔ b.peakI.toNat = 5 := by
  have hcentre : Config.block.center = 5 := rfl
  rw [Scoreboard.aligned, beq_iff_eq, hcentre]

@[simp] theorem Scoreboard.offset_block (b : Scoreboard) : b.offset Config.block = 5 - b.peakI.toNat := rfl

theorem Board.exists_iff {p : Board → Prop} : (∃ k, p k) ↔ p .Z ∨ p .O ∨ p .M := by
  constructor
  · rintro ⟨k, hk⟩
    cases k with
    | Z => exact .inl hk
    | O => exact .inr (.inl hk)
    | M => exact .inr (.inr hk)
  · rintro (h | h | h) <;> exact ⟨_, h⟩

theorem Board.forall_iff {p : Board → Prop} : (∀ k, p k) ↔ p .Z ∧ p .O ∧ p .M :=
  ⟨fun h => ⟨h .Z, h .O, h .M⟩, fun ⟨hz, ho, hm⟩ k => by cases k <;> assumption⟩

end Sys2Proof.Machine
end

/-! ### The two detectors (42_symbol_detector.md R162, R163) -/

section
namespace Sys2Proof.Machine

theorem mem_checkingOrder (k : Board) : k ∈ checkingOrder := by cases k <;> decide

/-- The checking order names every board once, so a filter leaves one board exactly when that board alone passes. -/
theorem filter_checkingOrder_eq_singleton_iff {p : Board → Bool} {k : Board} :
    checkingOrder.filter p = [k] ↔ ∀ j, p j = true ↔ j = k := by
  constructor
  · intro h j
    have hmem : j ∈ checkingOrder.filter p ↔ j = k := by rw [h, List.mem_singleton]
    rwa [List.mem_filter, and_iff_right (mem_checkingOrder j)] at hmem
  · intro h
    obtain rfl : p = (· == k) := funext fun j => Bool.eq_iff_iff.mpr ((h j).trans beq_iff_eq.symm)
    cases k <;> rfl

/-- DETECT_SYNC under any parameters: a detection comes from the sole board that qualifies. -/
theorem detectSync_eq_some_iff {c : Params} {bs : PerBoard Scoreboard} {sym : Symbol} {off : Int} :
    detectSync c bs = some (sym, off) ↔
      ∃ k : Board, sym = k.symbol ∧ off = (bs.get k).offset c ∧ ∀ j, (bs.get j).qualifies c = true ↔ j = k := by
  simp only [← filter_checkingOrder_eq_singleton_iff]
  unfold detectSync
  split
  · next k hk => simp [hk, eq_comm]
  · next hne => simpa using fun k _ _ => hne k

/-- Settles O34: the sole qualifying board of `detectSync_eq_some_iff` is one of the three. -/
theorem syncDetector : Obligations.SyncDetector := by
  intro bs sym off
  rw [detectSync_eq_some_iff, Board.exists_iff]
  simp only [Board.forall_iff, Scoreboard.qualifies_block_iff, Scoreboard.offset_block, Board.symbol, PerBoard.get,
    reduceCtorEq, iff_true, iff_false, not_lt]

theorem find?_checkingOrder (p : Board → Bool) :
    checkingOrder.find? p =
      if p .Z then some .Z else if p .O then some .O else if p .M then some .M else none := by
  unfold checkingOrder
  split_ifs <;> simp [*]

/-- Settles O33: the chain of `find?_checkingOrder` at the block's threshold and centre. -/
theorem seekDetector : Obligations.SeekDetector := by
  intro bs
  rw [detectSeek, find?_checkingOrder]
  simp only [Bool.and_eq_true, Scoreboard.qualifies_block_iff, Scoreboard.aligned_block_iff, apply_ite (Option.map _),
    Option.map_some, Option.map_none, Board.symbol, PerBoard.get]

end Sys2Proof.Machine
end

/-! ## Proofs of the family 43_symbol_stream.md -/

/-! ### The frame-alignment score (43_symbol_stream.md R181) -/

section
namespace Sys2Proof.Machine

theorem markerPositions_contains_iff (i : Nat) :
    markerPositions.contains i = true ↔ i = 0 ∨ i = 9 ∨ i = 19 ∨ i = 29 ∨ i = 39 ∨ i = 49 ∨ i = 59 := by
  simp [markerPositions]

/-- What a frame holds at a position. -/
theorem positionScores_iff (i : Nat) (sym : Symbol) :
    positionScores i sym = true ↔
      if i = 0 ∨ i = 9 ∨ i = 19 ∨ i = 29 ∨ i = 39 ∨ i = 49 ∨ i = 59 then sym = .marker
      else sym = .zero ∨ sym = .one := by
  simp only [positionScores, markerPositions_contains_iff]
  split <;> simp

/-- The score is full exactly when every position scores. -/
theorem frameAlignment_eq_sixty_iff (st : Vector Symbol 60) :
    frameAlignment Config.block st = 60 ↔ ∀ i : Fin 60, positionScores i.val st[i] = true := by
  have hcount := List.countP_eq_length (p := fun i : Fin 60 => positionScores i.val st[i]) (l := List.finRange 60)
  rw [List.length_finRange] at hcount
  simpa [frameAlignment_block] using hcount

/-- Settles O35: the score counts 60 positions, so it is full when each of them scores, and `positionScores_iff` says
when one does. -/
theorem perfectFrameAlignment : Obligations.PerfectFrameAlignment := by
  intro st
  refine ⟨frameAlignment_le Config.block st, (frameAlignment_eq_sixty_iff st).trans ?_⟩
  exact forall_congr' fun i => positionScores_iff i.val st[i]

end Sys2Proof.Machine
end

/-! ### What step 5 of TICK leaves beside its push (43_symbol_stream.md R180, 45_acquisition.md R220) -/

section
namespace Sys2Proof.Machine

/-- `t` is `s` but for the clock, the acquisition state and the flags other than `valid_frame`: what step 5 of TICK may
write beside a push. -/
structure State.TrackingOnly (s t : State) : Prop where
  rest : t = { s with clock := t.clock, acq := t.acq, flags := t.flags }
  validFrame : t.flag .validFrame = s.flag .validFrame

theorem State.TrackingOnly.trans {s t u : State} (hst : s.TrackingOnly t) (htu : t.TrackingOnly u) :
    s.TrackingOnly u where
  rest := htu.rest.trans (by rw [hst.rest])
  validFrame := htu.validFrame.trans hst.validFrame

theorem State.trackingOnly_acq (s : State) (a : Acquisition) : s.TrackingOnly { s with acq := a } := ⟨rfl, rfl⟩

/-- Setting another flag leaves `valid_frame`. -/
theorem State.validFrame_of_or {s t : State} {f : Flag} (ht : t.flags = s.flags ||| f.mask) (hf : f ≠ .validFrame) :
    t.flag .validFrame = s.flag .validFrame := by
  rw [State.flag_congr (t := s.raiseFlag f) ht, State.flag_raiseFlag, decide_eq_false hf, Bool.or_false]

theorem State.trackingOnly_disciplineCheck {c : Params} {s t : State} (h : s.disciplineCheck c = .ok t) :
    s.TrackingOnly t := by
  refine ⟨State.disciplineCheck_eq h, ?_⟩
  obtain ⟨-, rfl⟩ | ⟨-, -, -, ht⟩ := State.disciplineCheck_cases h
  · rfl
  · by_cases hc : t.clock.scaled = s.clock.scaled
    · exact State.flag_congr (by rw [ht]; simp [hc]) _
    · exact State.validFrame_of_or (f := .tickIntervalChanged) (by rw [ht]; simp [hc]) (by decide)

theorem State.trackingOnly_persistCheck (c : Params) (s : State) : s.TrackingOnly (s.persistCheck c) := by
  obtain ⟨-, h⟩ | ⟨-, h⟩ := s.persistCheck_cases c <;> rw [h]
  · exact ⟨rfl, rfl⟩
  · exact ⟨rfl, State.validFrame_of_or (f := .paramsUnsaved) rfl (by decide)⟩

end Sys2Proof.Machine
end

/-! ### The symbol a TICK pushes (45_acquisition.md R221, R223, R224) -/

section
namespace Sys2Proof.Machine

theorem State.pushes_of_seek {b : Bool} {s : State} (hm : s.acq.mode = .seek) :
    s.pushes b = detectSeek Config.block (s.takeSample Config.block b).board := by
  simp only [State.pushes, hm]

theorem State.pushes_between_peeks {b : Bool} {s : State} (hm : s.acq.mode = .sync) (hp : s.acq.peekIn ≠ 1#8) :
    s.pushes b = none := by
  have hne : s.acq.peekIn.toNat ≠ 1 := fun h => hp (BitVec.eq_of_toNat_eq h)
  simp only [State.pushes, hm, if_neg hne]

theorem State.pushes_of_peek {b : Bool} {s : State} (hm : s.acq.mode = .sync) (hp : s.acq.peekIn = 1#8) :
    s.pushes b =
      some (((detectSync Config.block (s.takeSample Config.block b).board).map Prod.fst).getD .missing) := by
  simp only [State.pushes, hm, hp]
  cases detectSync Config.block (s.takeSample Config.block b).board <;> rfl

/-- SS_SHIFT of the symbol, if there is one. -/
def State.ssShiftOpt (c : Params) (sym : Option Symbol) (s : State) : State :=
  match sym with
  | some sym => s.ssShift c sym
  | none => s

/-- The countdown and the peek of a TICK push the symbol of `State.pushes`. -/
theorem State.trackingOnly_countDown {b : Bool} {s : State} (hm : s.acq.mode = .sync) :
    ((s.takeSample Config.block b).ssShiftOpt Config.block (s.pushes b)).TrackingOnly
      ((s.takeSample Config.block b).countDown Config.block) := by
  obtain ⟨hp, h⟩ | ⟨hp, sym, off, hd, h⟩ | ⟨hp, hd, h⟩ :=
    (s.takeSample Config.block b).countDown_cases Config.block <;> rw [h]
  · rw [State.pushes_between_peeks hm hp]
    exact State.trackingOnly_acq _ _
  · rw [State.pushes_of_peek hm hp, hd]
    exact State.trackingOnly_acq _ _
  · rw [State.pushes_of_peek hm hp, hd]
    exact State.trackingOnly_acq _ _

/-- Step 5 of a TICK pushes the symbol of `State.pushes`, if any, and beside it only tracks. -/
theorem State.trackingOnly_acquisitionTick {b : Bool} {s t : State}
    (h : (s.takeSample Config.block b).acquisitionTick Config.block = .ok t) :
    ((s.takeSample Config.block b).ssShiftOpt Config.block (s.pushes b)).TrackingOnly t := by
  obtain ⟨hm, rfl⟩ | ⟨hm, h⟩ := State.acquisitionTick_cases h
  · rw [State.pushes_of_seek (s := s) hm]
    obtain ⟨hd, h⟩ | ⟨sym, hd, h⟩ := (s.takeSample Config.block b).seekTick_cases Config.block <;> rw [h, hd]
    · exact ⟨rfl, rfl⟩
    · exact State.trackingOnly_acq _ _
  · have hdown := State.trackingOnly_countDown (b := b) (s := s) hm
    obtain ⟨-, rfl⟩ | ⟨-, u, hu, rfl⟩ := State.syncTick_cases h
    · exact hdown
    · exact (hdown.trans (State.trackingOnly_disciplineCheck hu)).trans (u.trackingOnly_persistCheck Config.block)

end Sys2Proof.Machine
end

/-! ### The stream after a TICK (43_symbol_stream.md R180, R181) -/

section
namespace Sys2Proof.Machine

/-- A push raises `valid_frame` exactly on a full score. -/
theorem State.ssShift_validFrame (c : Params) (sym : Symbol) (s : State) :
    (s.ssShift c sym).flag .validFrame =
      (s.flag .validFrame || decide (frameAlignment c (s.ssShift c sym).stream = 60)) := by
  rw [State.ssShift_stream]
  obtain ⟨hne, h⟩ | ⟨hfull, -, h⟩ | ⟨hfull, -, h⟩ := s.ssShift_cases c sym
  · rw [decide_eq_false hne, Bool.or_false]
    exact State.flag_congr (by rw [h]) _
  all_goals
    rw [decide_eq_true hfull, State.flag_congr (t := s.raiseFlag .validFrame) (by rw [h]; rfl), State.flag_raiseFlag]
    rfl

/-- After a TICK the stream, its score and `valid_frame` are those that its push leaves. -/
theorem exec_tick_ssShiftOpt {b : Bool} {s t : State} (h : exec (.tick b) s = .next t) :
    t.stream = ((s.takeSample Config.block b).ssShiftOpt Config.block (s.pushes b)).stream
      ∧ t.frameScore = ((s.takeSample Config.block b).ssShiftOpt Config.block (s.pushes b)).frameScore
      ∧ t.flag .validFrame
        = ((s.takeSample Config.block b).ssShiftOpt Config.block (s.pushes b)).flag .validFrame := by
  obtain ⟨mid, hmid, rfl⟩ := exec_tick_next_iff.mp h
  obtain ⟨hrest, hvalid⟩ := State.trackingOnly_acquisitionTick hmid
  have hfinish : (mid.finishTick Config.block).complete.flag .validFrame = mid.flag .validFrame := by
    rw [State.flag_congr (State.complete_flags _), State.flag_finishTick]
    simp
  refine ⟨?_, ?_, hfinish.trans hvalid⟩
  · rw [State.complete_stream, State.finishTick_stream, hrest]
  · rw [State.complete_frameScore, State.finishTick_frameScore, hrest]

/-- Settles O36: the TICK leaves what its push leaves (`exec_tick_ssShiftOpt`), and a push shifts the stream, scores it
(`State.ssShift_frameScored`) and raises the flag on a full score. -/
theorem tickPushesAndScoresTheStream : Obligations.TickPushesAndScoresTheStream := by
  intro b s t h
  obtain ⟨hstream, hscore, hvalid⟩ := exec_tick_ssShiftOpt h
  refine ⟨fun hnone => ?_, fun sym hsome => ?_⟩
  · rw [hnone] at hstream hscore hvalid
    exact ⟨hstream, hscore, hvalid⟩
  · rw [hsome, State.ssShiftOpt] at hstream hscore hvalid
    have hscored := (s.takeSample Config.block b).ssShift_frameScored sym
    rw [State.ssShift_validFrame, ← hstream] at hvalid
    rw [State.FrameScored, ← hscore, ← hstream] at hscored
    rw [State.ssShift_stream] at hstream
    refine ⟨fun i => ?_, ?_, hscored, hvalid⟩
    · rw [hstream, pushSymbol_castSucc, State.takeSample_stream]
    · rw [hstream, pushSymbol_last]

end Sys2Proof.Machine
end

/-! ## Proofs of the family 44_frame_decoder.md -/

/-! ### The fields of a frame (44_frame_decoder.md R201, R202) -/

section
namespace Sys2Proof.Machine

theorem frameStream_getElem (m h d y : Nat) (ly : Bool) (i : Fin 60) :
    (frameStream m h d y ly)[i] =
      if markerPositions.contains i.val then .marker else if frameOne m h d y ly i.val then .one else .zero := by
  simp [frameStream]

/-- The table of weights names no marker position. -/
theorem frameOne_of_marker (m h d y : Nat) (ly : Bool) {i : Nat} (hi : markerPositions.contains i = true) :
    frameOne m h d y ly i = false := by
  obtain rfl | rfl | rfl | rfl | rfl | rfl | rfl := (markerPositions_contains_iff i).mp hi <;> rfl

/-- The decoder's `b(i)` of a written frame is the bit written there. -/
theorem frameBit_frameStream (m h d y : Nat) (ly : Bool) (i : Fin 60) :
    frameBit (frameStream m h d y ly) i = (frameOne m h d y ly i.val).toNat := by
  rw [frameBit, frameStream_getElem]
  by_cases hi : markerPositions.contains i.val = true
  · rw [if_pos hi, frameOne_of_marker m h d y ly hi]
    rfl
  · rw [if_neg hi]
    cases frameOne m h d y ly i.val <;> rfl

/-- A written frame holds at every position what a frame holds there. -/
theorem frameAlignment_frameStream (m h d y : Nat) (ly : Bool) :
    frameAlignment Config.block (frameStream m h d y ly) = 60 := by
  refine (frameAlignment_eq_sixty_iff _).mpr fun i => ?_
  rw [frameStream_getElem, positionScores]
  by_cases hi : markerPositions.contains i.val = true
  · rw [if_pos hi, if_pos hi]
    rfl
  · rw [if_neg hi, if_neg hi]
    cases frameOne m h d y ly i.val <;> rfl

/-- A decimal digit is the weighted sum of its four bits, and a small one of its last three or two. -/
theorem digit_of_four_bits {n unit q : Nat} (hq : n / unit % 10 = q) :
    8 * (digitBit n unit 3).toNat + 4 * (digitBit n unit 2).toNat + 2 * (digitBit n unit 1).toNat
      + (digitBit n unit 0).toNat = q := by
  simp only [digitBit, hq, Nat.toNat_testBit]
  omega

theorem digit_of_three_bits {n unit q : Nat} (hq : n / unit % 10 = q) (h8 : q < 8) :
    4 * (digitBit n unit 2).toNat + 2 * (digitBit n unit 1).toNat + (digitBit n unit 0).toNat = q := by
  simp only [digitBit, hq, Nat.toNat_testBit]
  omega

theorem digit_of_two_bits {n unit q : Nat} (hq : n / unit % 10 = q) (h4 : q < 4) :
    2 * (digitBit n unit 1).toNat + (digitBit n unit 0).toNat = q := by
  simp only [digitBit, hq, Nat.toNat_testBit]
  omega

/-- The decoder reads the decimal digits of a written frame, whose tens of minutes fit three bits, and whose tens of
hours and hundreds of days fit two. -/
theorem frameDigits_frameStream {m h d : Nat} (y : Nat) (ly : Bool) (hm : m < 60) (hh : h < 24) (hd : d < 400) :
    frameDigits (frameStream m h d y ly) =
      { minuteTens := m / 10, minuteUnits := m % 10
        hourTens := h / 10, hourUnits := h % 10
        dayHundreds := d / 100, dayTens := d / 10 % 10, dayUnits := d % 10
        yearTens := y / 10 % 10, yearUnits := y % 10
        leapYear := ly.toNat } := by
  have hunits : ∀ n, n / 1 % 10 = n % 10 := fun n => by rw [Nat.div_one]
  simp only [frameDigits, frameBit_frameStream, FrameDigits.mk.injEq]
  exact ⟨digit_of_three_bits (unit := 10) (by omega) (by omega), digit_of_four_bits (hunits m),
    digit_of_two_bits (unit := 10) (by omega) (by omega), digit_of_four_bits (hunits h),
    digit_of_two_bits (unit := 100) (by omega) (by omega), digit_of_four_bits (unit := 10) rfl,
    digit_of_four_bits (hunits d), digit_of_four_bits (unit := 10) rfl, digit_of_four_bits (hunits y), rfl⟩

/-- The checks of the range check (44_frame_decoder.md R202). -/
theorem FrameDigits.inRange_iff (d : FrameDigits) :
    d.inRange = true ↔
      d.minuteUnits ≤ 9 ∧ d.hourUnits ≤ 9 ∧ d.dayTens ≤ 9 ∧ d.dayUnits ≤ 9 ∧ d.yearTens ≤ 9 ∧ d.yearUnits ≤ 9
        ∧ d.minutes ≤ 59 ∧ d.hours ≤ 23 ∧ 1 ≤ d.day ∧ d.day ≤ 365 + d.leapYear := by
  simp only [FrameDigits.inRange, Bool.and_eq_true, decide_eq_true_eq, and_assoc]

/-- Settles O37: a written frame has the digits of its fields (`frameDigits_frameStream`), which are decimal digits of a
minute and an hour that exist, so only the checks on the day are left of `FrameDigits.inRange_iff`. -/
theorem frameFieldsReadBack : Obligations.FrameFieldsReadBack := by
  refine ⟨fun m h d y ly hm hh hd hy => ?_, ?_⟩
  · have hleap : ly.toNat = 1 ↔ ly = true := by cases ly <;> decide
    have hlast : 365 + ly.toNat = if ly then 366 else 365 := by cases ly <;> rfl
    rw [FrameDigits.inRange_iff, frameDigits_frameStream y ly hm hh hd, ← hlast]
    refine ⟨frameAlignment_frameStream m h d y ly, ?_, ?_, ?_, ?_, hleap, ?_⟩ <;>
      simp only [FrameDigits.minutes, FrameDigits.hours, FrameDigits.day, FrameDigits.year] <;> omega
  · intro st b mt mu ht hu dh dt du yt yu hb hmt hmu hht hhu hdh hdt hdu hyt hyu
    obtain rfl : b = frameBit st := funext hb
    subst hmt hmu hht hhu hdh hdt hdu hyt hyu
    exact FrameDigits.inRange_iff _

end Sys2Proof.Machine
end

/-! ### The minute after, and the ticks into it (44_frame_decoder.md R203, 47_time_of_day.md R280, R281) -/

section
namespace Sys2Proof.Machine

/-- A minute carry writes the minute, the hour, the day, the year and the leap flag, and nothing else. -/
theorem TimeOfDay.minuteCarry_eq (t : TimeOfDay) :
    t.minuteCarry =
      { t with
        minutes := t.minuteCarry.minutes, hours := t.minuteCarry.hours, day := t.minuteCarry.day
        year := t.minuteCarry.year, isLeapYear := t.minuteCarry.isLeapYear } := by
  obtain ⟨-, h⟩ | ⟨-, -, h⟩ | ⟨-, -, -, h⟩ | ⟨-, -, -, h⟩ := t.minuteCarry_cases <;> rw [h]

/-- A tick keeps HAS_FIX. -/
theorem TimeOfDay.advance_hasFix (t : TimeOfDay) : t.advance.hasFix = t.hasFix := by
  obtain ⟨-, h⟩ | ⟨-, -, h⟩ | ⟨-, -, h⟩ := t.advance_cases <;> rw [h]
  rw [TimeOfDay.minuteCarry_eq]

theorem TimeOfDay.secondRolls_eq_false {t : TimeOfDay} (h : t.ticks.toNat < 59) : t.secondRolls = false := by
  simp only [TimeOfDay.secondRolls, beq_eq_false_iff_ne]
  bv_omega

/-- A tick within a second counts. -/
theorem TimeOfDay.advance_of_ticks_lt {t : TimeOfDay} (h : t.ticks.toNat < 59) :
    t.advance = { t with ticks := t.ticks + 1#8 } := by
  obtain ⟨-, he⟩ | ⟨hs, -⟩ | ⟨hs, -⟩ := t.advance_cases
  · exact he
  all_goals simp [TimeOfDay.secondRolls_eq_false h] at hs

/-- Ticks within a second count. -/
theorem TimeOfDay.advanceBy_of_ticks_lt (n : Nat) {t : TimeOfDay} (h : t.ticks.toNat + n < 60) :
    t.advanceBy n = { t with ticks := t.ticks + BitVec.ofNat 8 n } := by
  induction n generalizing t with
  | zero => simp [TimeOfDay.advanceBy]
  | succ n ih =>
    have hsucc : (t.ticks + 1#8).toNat = t.ticks.toNat + 1 := by bv_omega
    rw [TimeOfDay.advanceBy, TimeOfDay.advance_of_ticks_lt (by omega), ih (by simp only [hsucc]; omega)]
    simp only [BitVec.add_assoc, Nat.add_comm n 1, BitVec.ofNat_add]

/-- The minute and the hour after a minute carry, as the minute of the day. -/
theorem TimeOfDay.minuteCarry_minuteOfDay {t : TimeOfDay} (hm : t.minutes.toNat < 60) (hh : t.hours.toNat < 24) :
    t.minuteCarry.hours.toNat * 60 + t.minuteCarry.minutes.toNat
        = (t.hours.toNat * 60 + t.minutes.toNat + 1) % 1440
      ∧ t.minuteCarry.minutes.toNat < 60 := by
  obtain ⟨hne, h⟩ | ⟨he, hne, h⟩ | ⟨he, he', -, h⟩ | ⟨he, he', -, h⟩ := t.minuteCarry_cases <;> rw [h]
  · have hsucc : (t.minutes + 1#8).toNat = t.minutes.toNat + 1 := by bv_omega
    have hlt : (t.minutes + 1#8).toNat < 60 := by bv_omega
    simp only [hsucc] at hlt ⊢
    omega
  · have hm59 : t.minutes.toNat = 59 := by bv_omega
    have hsucc : (t.hours + 1#8).toNat = t.hours.toNat + 1 := by bv_omega
    have hlt : (t.hours + 1#8).toNat < 24 := by bv_omega
    simp only [hsucc, hm59, BitVec.toNat_ofNat] at hlt ⊢
    omega
  all_goals
    have hm59 : t.minutes.toNat = 59 := by bv_omega
    have hh23 : t.hours.toNat = 23 := by bv_omega
    simp [hm59, hh23]

/-- Before the last minute of the day a minute carry keeps the date. -/
theorem TimeOfDay.minuteCarry_within_day {t : TimeOfDay} (h : t.hours.toNat * 60 + t.minutes.toNat + 1 < 1440) :
    t.minuteCarry.day = t.day ∧ t.minuteCarry.year = t.year ∧ t.minuteCarry.isLeapYear = t.isLeapYear := by
  obtain ⟨-, he⟩ | ⟨-, -, he⟩ | ⟨hm, hh, -⟩ | ⟨hm, hh, -⟩ := t.minuteCarry_cases
  · rw [he]; exact ⟨rfl, rfl, rfl⟩
  · rw [he]; exact ⟨rfl, rfl, rfl⟩
  all_goals
    have hm59 : t.minutes.toNat = 59 := by bv_omega
    have hh23 : t.hours.toNat = 23 := by bv_omega
    omega

/-- In the last minute of a day that is not the year's last, a minute carry carries into the day. -/
theorem TimeOfDay.minuteCarry_into_day {t : TimeOfDay} (hm : t.minutes.toNat < 60)
    (h : t.hours.toNat * 60 + t.minutes.toNat + 1 = 1440) (hd : t.day.toNat < t.lastDay) :
    t.minuteCarry = { t with minutes := 0#8, hours := 0#8, day := t.day + 1#16 } := by
  obtain ⟨hne, -⟩ | ⟨-, hne, -⟩ | ⟨-, -, -, he⟩ | ⟨-, -, hlast, -⟩ := t.minuteCarry_cases
  · exact absurd (by bv_omega) hne
  · exact absurd (by bv_omega) hne
  · exact he
  · exact absurd hlast (by bv_omega)

/-- In the last minute of the year, a minute carry carries into the year. -/
theorem TimeOfDay.minuteCarry_into_year {t : TimeOfDay} (hm : t.minutes.toNat < 60)
    (h : t.hours.toNat * 60 + t.minutes.toNat + 1 = 1440) (hd : t.day.toNat = t.lastDay) :
    t.minuteCarry =
      { t with
        minutes := 0#8, hours := 0#8, day := 1#16, year := t.year + 1#16
        isLeapYear := gregorianLeap (t.year + 1#16).toNat } := by
  have hle : t.lastDay ≤ 366 := by unfold TimeOfDay.lastDay; split <;> omega
  obtain ⟨hne, -⟩ | ⟨-, hne, -⟩ | ⟨-, -, hlast, -⟩ | ⟨-, -, -, he⟩ := t.minuteCarry_cases
  · exact absurd (by bv_omega) hne
  · exact absurd (by bv_omega) hne
  · exact absurd hlast (by bv_omega)
  · exact he

end Sys2Proof.Machine
end

/-! ### What an accepted frame loads (44_frame_decoder.md R203) -/

section
namespace Sys2Proof.Machine

/-- The start of the minute that a frame names, with the other fields of `t`. -/
def FrameDigits.frameMinute (d : FrameDigits) (t : TimeOfDay) : TimeOfDay :=
  { t with
    minutes := trunc8 d.minutes
    hours := trunc8 d.hours
    day := trunc16 d.day
    year := trunc16 (2000 + d.year)
    isLeapYear := d.leapYear == 1
    seconds := 0#8
    ticks := 0#8 }

/-- The start of the minute after it, which an accepted frame loads. -/
def FrameDigits.minuteAfter (d : FrameDigits) (t : TimeOfDay) : TimeOfDay := (d.frameMinute t).minuteCarry

/-- The minute carry leaves what the frame does not name. -/
theorem FrameDigits.minuteAfter_frame (d : FrameDigits) (t : TimeOfDay) :
    (d.minuteAfter t).ticks = 0#8 ∧ (d.minuteAfter t).seconds = 0#8 ∧ (d.minuteAfter t).isDst = t.isDst
      ∧ (d.minuteAfter t).isLeapMinute = t.isLeapMinute := by
  rw [FrameDigits.minuteAfter, TimeOfDay.minuteCarry_eq]
  exact ⟨rfl, rfl, rfl, rfl⟩

/-- A frame loads the start of the minute after its own, 14 ticks in. -/
theorem FrameDigits.load_block (d : FrameDigits) (t : TimeOfDay) :
    d.load Config.block t = { d.minuteAfter t with ticks := 14#8, hasFix := true } := by
  obtain ⟨hticks, -⟩ := d.minuteAfter_frame t
  have hrun : (d.minuteAfter t).advanceBy 14 = { d.minuteAfter t with ticks := 14#8 } := by
    rw [TimeOfDay.advanceBy_of_ticks_lt 14 (by simp [hticks]), hticks]
    rfl
  exact congrArg (fun u : TimeOfDay => { u with hasFix := true }) hrun

theorem FrameDigits.load_ticks (d : FrameDigits) (t : TimeOfDay) : (d.load Config.block t).ticks = 14#8 := by
  rw [FrameDigits.load_block]

/-- The tick that loads a frame counts too. -/
theorem FrameDigits.advance_load (d : FrameDigits) (t : TimeOfDay) :
    (d.load Config.block t).advance = { d.minuteAfter t with ticks := 15#8, hasFix := true } := by
  rw [TimeOfDay.advance_of_ticks_lt (by rw [FrameDigits.load_ticks]; decide), FrameDigits.load_block]
  rfl

theorem FrameDigits.year_le {d : FrameDigits} (h : d.inRange = true) : d.year ≤ 99 := by
  obtain ⟨-, -, -, -, htens, hunits, -⟩ := d.inRange_iff.mp h
  unfold FrameDigits.year
  omega

/-- The fields of an accepted frame fit the registers. -/
theorem FrameDigits.frameMinute_toNat {d : FrameDigits} (h : d.inRange = true) (hleap : d.leapYear ≤ 1)
    (t : TimeOfDay) :
    (d.frameMinute t).minutes.toNat = d.minutes ∧ (d.frameMinute t).hours.toNat = d.hours
      ∧ (d.frameMinute t).day.toNat = d.day ∧ (d.frameMinute t).year.toNat = 2000 + d.year
      ∧ (d.frameMinute t).lastDay = 365 + d.leapYear := by
  obtain ⟨hmin, hhour, -, hday⟩ := FrameDigits.ranges_of_inRange h
  have hyear := FrameDigits.year_le h
  have hlast : (d.frameMinute t).lastDay = 365 + d.leapYear := by
    obtain h0 | h1 : d.leapYear = 0 ∨ d.leapYear = 1 := by omega
    · simp [FrameDigits.frameMinute, TimeOfDay.lastDay, h0]
    · simp [FrameDigits.frameMinute, TimeOfDay.lastDay, h1]
  refine ⟨?_, ?_, ?_, ?_, hlast⟩ <;>
    simp only [FrameDigits.frameMinute, trunc8, trunc16, BitVec.toNat_ofNat] <;> omega

/-- The minute and the hour after an accepted frame's. -/
theorem FrameDigits.minuteAfter_minuteOfDay {d : FrameDigits} (h : d.inRange = true) (hleap : d.leapYear ≤ 1)
    (t : TimeOfDay) :
    (d.minuteAfter t).hours.toNat * 60 + (d.minuteAfter t).minutes.toNat = (d.hours * 60 + d.minutes + 1) % 1440
      ∧ (d.minuteAfter t).minutes.toNat < 60 := by
  obtain ⟨hmin, hhour, -⟩ := FrameDigits.ranges_of_inRange h
  obtain ⟨hm, hh, -⟩ := FrameDigits.frameMinute_toNat h hleap t
  rw [← hm, ← hh]
  exact TimeOfDay.minuteCarry_minuteOfDay (by omega) (by omega)

/-- The date after an accepted frame's minute: its own within the day, else the next day, else the next year's first. -/
theorem FrameDigits.minuteAfter_date {d : FrameDigits} (h : d.inRange = true) (hleap : d.leapYear ≤ 1)
    (t : TimeOfDay) :
    (d.hours * 60 + d.minutes + 1 < 1440 →
        (d.minuteAfter t).day.toNat = d.day ∧ (d.minuteAfter t).year.toNat = 2000 + d.year
          ∧ (d.minuteAfter t).isLeapYear = (d.leapYear == 1))
      ∧ (d.hours * 60 + d.minutes + 1 = 1440 → d.day < 365 + d.leapYear →
        (d.minuteAfter t).day.toNat = d.day + 1 ∧ (d.minuteAfter t).year.toNat = 2000 + d.year
          ∧ (d.minuteAfter t).isLeapYear = (d.leapYear == 1))
      ∧ (d.hours * 60 + d.minutes + 1 = 1440 → d.day = 365 + d.leapYear →
        (d.minuteAfter t).day.toNat = 1 ∧ (d.minuteAfter t).year.toNat = 2001 + d.year
          ∧ (d.minuteAfter t).isLeapYear = gregorianLeap (2001 + d.year)) := by
  obtain ⟨hmin, hhour, -⟩ := FrameDigits.ranges_of_inRange h
  obtain ⟨hm, hh, hday, hyear, hlast⟩ := FrameDigits.frameMinute_toNat h hleap t
  have hm60 : (d.frameMinute t).minutes.toNat < 60 := by omega
  rw [← hm, ← hh, ← hday, ← hlast]
  refine ⟨fun hin => ?_, fun hend hlt => ?_, fun hend heq => ?_⟩
  · obtain ⟨hday', hyear', hleap'⟩ := TimeOfDay.minuteCarry_within_day hin
    rw [FrameDigits.minuteAfter, hday', hyear', hleap']
    exact ⟨rfl, hyear, rfl⟩
  · rw [FrameDigits.minuteAfter, TimeOfDay.minuteCarry_into_day hm60 hend hlt]
    exact ⟨by bv_omega, hyear, rfl⟩
  · have hle := FrameDigits.year_le h
    have hsucc : ((d.frameMinute t).year + 1#16).toNat = 2001 + d.year := by bv_omega
    rw [FrameDigits.minuteAfter, TimeOfDay.minuteCarry_into_year hm60 hend heq]
    exact ⟨rfl, hsucc, congrArg gregorianLeap hsucc⟩

end Sys2Proof.Machine
end

/-! ### What a TICK does to the time of day and DEC_REJ (44_frame_decoder.md R202, R203) -/

section
namespace Sys2Proof.Machine

/-! Whether a TICK completes or accepts a frame, by the symbol it pushes. -/

theorem State.completesFrame_of_no_push {b : Bool} {s : State} (h : s.pushes b = none) :
    s.completesFrame b = false := by
  rw [State.completesFrame, h]
  rfl

theorem State.streamAfter_of_push {b : Bool} {s : State} {sym : Symbol} (h : s.pushes b = some sym) :
    s.streamAfter b = pushSymbol Config.block sym s.stream := by
  simp only [State.streamAfter, h]

theorem State.completesFrame_of_push {b : Bool} {s : State} {sym : Symbol} (h : s.pushes b = some sym) :
    s.completesFrame b = decide (frameAlignment Config.block (pushSymbol Config.block sym s.stream) = 60) := by
  rw [State.completesFrame, State.streamAfter_of_push h, h]
  exact Bool.true_and _

theorem State.acceptsFrame_iff {b : Bool} {s : State} :
    s.acceptsFrame b = true ↔ s.completesFrame b = true ∧ (frameDigits (s.streamAfter b)).inRange = true := by
  rw [State.acceptsFrame, Bool.and_eq_true]

/-- The push of a TICK loads the time of day exactly when it accepts a frame, and writes DEC_REJ exactly when it
completes one. -/
theorem State.ssShiftOpt_tod_decRej (b : Bool) (s : State) :
    ((s.takeSample Config.block b).ssShiftOpt Config.block (s.pushes b)).tod
        = (if s.acceptsFrame b then (frameDigits (s.streamAfter b)).load Config.block s.tod else s.tod)
      ∧ ((s.takeSample Config.block b).ssShiftOpt Config.block (s.pushes b)).decRej
        = (if s.completesFrame b then !s.acceptsFrame b else s.decRej) := by
  rw [State.acceptsFrame]
  cases hp : s.pushes b with
  | none =>
    rw [State.completesFrame_of_no_push hp]
    exact ⟨rfl, rfl⟩
  | some sym =>
    rw [State.completesFrame_of_push hp, State.streamAfter_of_push hp, ← State.takeSample_stream Config.block b s]
    obtain ⟨hne, h⟩ | ⟨hfull, hr, h⟩ | ⟨hfull, hr, h⟩ :=
      (s.takeSample Config.block b).ssShift_cases Config.block sym <;> rw [State.ssShiftOpt, h]
    · rw [decide_eq_false hne]
      exact ⟨rfl, rfl⟩
    · rw [decide_eq_true hfull, hr]
      exact ⟨rfl, rfl⟩
    · rw [decide_eq_true hfull, hr]
      exact ⟨rfl, rfl⟩

/-- Step 5 of a TICK writes the time of day and DEC_REJ by its push alone. -/
theorem State.acquisitionTick_tod_decRej {b : Bool} {s t : State}
    (h : (s.takeSample Config.block b).acquisitionTick Config.block = .ok t) :
    t.tod = (if s.acceptsFrame b then (frameDigits (s.streamAfter b)).load Config.block s.tod else s.tod)
      ∧ t.decRej = (if s.completesFrame b then !s.acceptsFrame b else s.decRej) := by
  rw [(State.trackingOnly_acquisitionTick h).rest]
  exact s.ssShiftOpt_tod_decRej b

/-- A TICK advances the time of day by its one tick, from what an accepted frame loads. -/
theorem exec_tick_tod_decRej {b : Bool} {s t : State} (h : exec (.tick b) s = .next t) :
    t.tod
        = (if s.acceptsFrame b then (frameDigits (s.streamAfter b)).load Config.block s.tod else s.tod).advance
      ∧ t.decRej = (if s.completesFrame b then !s.acceptsFrame b else s.decRej) := by
  obtain ⟨mid, hmid, rfl⟩ := exec_tick_next_iff.mp h
  obtain ⟨htod, hrej⟩ := State.acquisitionTick_tod_decRej hmid
  rw [State.complete_tod, State.finishTick_tod, State.complete_decRej, State.finishTick_decRej, htod]
  exact ⟨rfl, hrej⟩

/-- Settles O39: without an accepted frame the push leaves the time of day, and DEC_REJ is written by the completed
frames alone (`exec_tick_tod_decRej`). -/
theorem rejectedFrameLoadsNothing : Obligations.RejectedFrameLoadsNothing := by
  intro b s t h hno
  obtain ⟨htod, hrej⟩ := exec_tick_tod_decRej h
  rw [hno] at htod hrej
  refine ⟨hrej.trans ?_, htod⟩
  cases s.completesFrame b <;> simp

end Sys2Proof.Machine
end

/-! ### HAS_FIX over every step (44_frame_decoder.md R203, 45_acquisition.md R226) -/

section
namespace Sys2Proof.Machine

/-- RESET clears HAS_FIX (70_reset_and_hazards.md R381). -/
theorem State.resetBlock_hasFix (c : Params) (p : Bool) (s : State) : (s.resetBlock c p).tod.hasFix = false := rfl

/-- A TICK sets HAS_FIX when it accepts a frame, and keeps it otherwise. -/
theorem exec_tick_hasFix {b : Bool} {s t : State} (h : exec (.tick b) s = .next t) :
    t.tod.hasFix = (s.acceptsFrame b || s.tod.hasFix) := by
  obtain ⟨htod, -⟩ := exec_tick_tod_decRej h
  rw [htod, TimeOfDay.advance_hasFix]
  cases s.acceptsFrame b <;> rfl

/-- A command that changes HAS_FIX is a RESET, or a TICK that accepts a frame. -/
theorem exec_hasFix_changes {i : Instr} {s t : State} (h : exec i s = .next t) (hne : t.tod.hasFix ≠ s.tod.hasFix) :
    (∃ r, i = .reset r ∧ t.tod.hasFix = false)
      ∨ ∃ b, i = .tick b ∧ s.acceptsFrame b = true ∧ t.tod.hasFix = true := by
  cases i with
  | tick b =>
    have hfix := exec_tick_hasFix h
    cases ha : s.acceptsFrame b with
    | true => exact .inr ⟨b, rfl, ha, by rw [hfix, ha, Bool.true_or]⟩
    | false => exact absurd (by rw [hfix, ha, Bool.false_or]) hne
  | rd a => rw [exec_rd] at h; cases h; exact absurd rfl hne
  | clrf m => rw [exec_clrf] at h; cases h; exact absurd rfl hne
  | reset p => rw [exec_reset] at h; cases h; exact .inl ⟨p, rfl, s.resetBlock_hasFix Config.block p⟩

/-- Settles O53: an idle step and an illegal word keep the time of day, and `exec_hasFix_changes` says it of every legal
command. -/
theorem fixChangesOnlyByAFrameOrReset : Obligations.FixChangesOnlyByAFrameOrReset := by
  intro s t h hne
  obtain ⟨-, rfl⟩ | ⟨p, rest, hs, -, hx⟩ := step_cases h
  · exact absurd rfl hne
  · refine ⟨p, rest, hs, ?_⟩
    obtain ⟨i, hi, hx⟩ | ⟨k, -, rfl⟩ := execute_cases hx
    · obtain ⟨r, rfl, hfix⟩ | ⟨b, rfl, ha, hfix⟩ := exec_hasFix_changes hx hne
      · exact .inl ⟨r, hi, hfix⟩
      · exact .inr ⟨b, hi, ha, hfix⟩
    · exact absurd rfl hne

end Sys2Proof.Machine
end

/-! ### The TICK of an accepted frame (44_frame_decoder.md R203) -/

section
namespace Sys2Proof.Machine

/-- Setting a flag leaves the others. -/
theorem State.flag_of_or {s t : State} {f g : Flag} (ht : t.flags = s.flags ||| f.mask) (hfg : f ≠ g) :
    t.flag g = s.flag g := by
  rw [State.flag_congr (t := s.raiseFlag f) ht, State.flag_raiseFlag, decide_eq_false hfg, Bool.or_false]

/-- Step 5 of TICK sets no flags but `valid_frame`, `tick_interval_changed` and `params_unsaved`. -/
theorem State.acquisitionTick_flag {c : Params} {g : Flag} (hvalid : Flag.validFrame ≠ g)
    (hinterval : Flag.tickIntervalChanged ≠ g) (hunsaved : Flag.paramsUnsaved ≠ g) {s t : State}
    (h : s.acquisitionTick c = .ok t) : t.flag g = s.flag g := by
  refine State.acquisitionTick_keeps (P := fun u => u.flag g = s.flag g) (fun u sym hu => ?_) (fun _ _ hu => hu)
    (fun u v hd hu => ?_) (fun u hu => ?_) h rfl
  · obtain ⟨-, he⟩ | ⟨-, -, he⟩ | ⟨-, -, he⟩ := u.ssShift_cases c sym
    · exact (State.flag_congr (by rw [he]) g).trans hu
    all_goals exact (State.flag_of_or (by rw [he]) hvalid).trans hu
  · obtain ⟨-, rfl⟩ | ⟨-, -, -, he⟩ := State.disciplineCheck_cases hd
    · exact hu
    · by_cases hc : v.clock.scaled = u.clock.scaled
      · exact (State.flag_congr (by rw [he]; simp [hc]) g).trans hu
      · exact (State.flag_of_or (by rw [he]; simp [hc]) hinterval).trans hu
  · obtain ⟨-, he⟩ | ⟨-, he⟩ := u.persistCheck_cases c
    · rwa [he]
    · exact (State.flag_of_or (by rw [he]) hunsaved).trans hu

/-- A TICK that accepts a frame raises neither time flag: the time of day it loads stands 14 ticks into a second. -/
theorem exec_tick_timeFlag {b : Bool} {s t : State} (h : exec (.tick b) s = .next t) (ha : s.acceptsFrame b = true)
    {g : Flag} (hg : g = .secondChanged ∨ g = .minuteChanged) : t.flag g = s.flag g := by
  obtain ⟨mid, hmid, rfl⟩ := exec_tick_next_iff.mp h
  obtain ⟨htod, -⟩ := State.acquisitionTick_tod_decRej hmid
  have hrolls : mid.tod.secondRolls = false :=
    TimeOfDay.secondRolls_eq_false (by rw [htod, if_pos ha, FrameDigits.load_ticks]; decide)
  have hrolls' : mid.tod.minuteRolls = false := by rw [TimeOfDay.minuteRolls, hrolls, Bool.false_and]
  have hmidflag : mid.flag g = (s.takeSample Config.block b).flag g := by
    obtain rfl | rfl := hg <;> exact State.acquisitionTick_flag (by decide) (by decide) (by decide) hmid
  rw [State.flag_congr (State.complete_flags _), State.flag_finishTick, hrolls, hrolls', hmidflag,
    State.flag_congr (State.takeSample_flags Config.block b s)]
  obtain rfl | rfl := hg <;> simp

/-- A TICK that completes a frame raises `valid_frame`. -/
theorem exec_tick_validFrame {b : Bool} {s t : State} (h : exec (.tick b) s = .next t)
    (hc : s.completesFrame b = true) : t.flag .validFrame = true := by
  obtain ⟨-, -, hvalid⟩ := exec_tick_ssShiftOpt h
  cases hp : s.pushes b with
  | none => simp [State.completesFrame_of_no_push hp] at hc
  | some sym =>
    rw [State.completesFrame_of_push hp] at hc
    rw [hvalid, hp, State.ssShiftOpt, State.ssShift_validFrame, State.ssShift_stream, State.takeSample_stream, hc,
      Bool.or_true]

/-- Settles O38: the TICK leaves the minute after the frame's, 15 ticks in (`FrameDigits.advance_load`), and the minute
carry says which minute, day and year that is. -/
theorem acceptedFrameLoadsTheTime : Obligations.AcceptedFrameLoadsTheTime := by
  rintro b s t h ha d rfl
  obtain ⟨hc, hr⟩ := State.acceptsFrame_iff.mp ha
  have hleap := frameDigits_leapYear_le (s.streamAfter b)
  obtain ⟨htod, hrej⟩ := exec_tick_tod_decRej h
  rw [ha, if_pos rfl, FrameDigits.advance_load] at htod
  rw [hc, ha] at hrej
  have hsecond := exec_tick_timeFlag h ha (.inl rfl)
  have hminute := exec_tick_timeFlag h ha (.inr rfl)
  have hvalid := exec_tick_validFrame h hc
  obtain ⟨hclock, hlt⟩ := FrameDigits.minuteAfter_minuteOfDay hr hleap s.tod
  obtain ⟨-, hseconds, hdst, hleapMinute⟩ := (frameDigits (s.streamAfter b)).minuteAfter_frame s.tod
  rw [htod]
  exact ⟨rfl, hseconds, rfl, hrej, hdst, hleapMinute, hsecond, hminute, hvalid, hclock, hlt,
    FrameDigits.minuteAfter_date hr hleap s.tod⟩

end Sys2Proof.Machine
end

/-! ## Proofs of the family 45_acquisition.md -/

/-! ### The flags that the parts of a TICK leave (10_state.md R43) -/

section
namespace Sys2Proof.Machine

/-- A push raises no flag but `valid_frame`. -/
theorem State.ssShift_flag (c : Params) (sym : Symbol) (s : State) {g : Flag} (hg : Flag.validFrame ≠ g) :
    (s.ssShift c sym).flag g = s.flag g := by
  obtain ⟨-, h⟩ | ⟨-, -, h⟩ | ⟨-, -, h⟩ := s.ssShift_cases c sym
  · exact State.flag_congr (by rw [h]) g
  · exact State.flag_of_or (by rw [h]) hg
  · exact State.flag_of_or (by rw [h]) hg

/-- The discipline check raises `tick_interval_changed` exactly when it changes `SCALED` (45_acquisition.md R227). -/
theorem State.disciplineCheck_flag {c : Params} {s t : State} (h : s.disciplineCheck c = .ok t) (g : Flag) :
    t.flag g =
      (s.flag g || (decide (t.clock.scaled ≠ s.clock.scaled) && decide (Flag.tickIntervalChanged = g))) := by
  obtain ⟨-, rfl⟩ | ⟨-, -, -, ht⟩ := State.disciplineCheck_cases h
  · simp
  · by_cases hc : t.clock.scaled = s.clock.scaled
    · rw [State.flag_congr (t := s) (by rw [ht]; simp [hc])]
      simp [hc]
    · rw [State.flag_congr (t := s.raiseFlag .tickIntervalChanged) (by rw [ht]; simp [hc]), State.flag_raiseFlag]
      simp [hc]

/-- The persistence check raises no flag but `params_unsaved`. -/
theorem State.persistCheck_flag (c : Params) (s : State) {g : Flag} (hg : Flag.paramsUnsaved ≠ g) :
    (s.persistCheck c).flag g = s.flag g := by
  obtain ⟨-, h⟩ | ⟨-, h⟩ := s.persistCheck_cases c
  · rw [h]
  · exact State.flag_of_or (by rw [h]) hg

/-- What follows step 5 in a TICK leaves the two flags that the checks of step 5 raise. -/
theorem State.finishTick_complete_flag (c : Params) (s : State) {g : Flag}
    (hg : g = .paramsUnsaved ∨ g = .tickIntervalChanged) : (s.finishTick c).complete.flag g = s.flag g := by
  rw [State.flag_congr (State.complete_flags _), State.flag_finishTick]
  obtain rfl | rfl := hg <;> simp

end Sys2Proof.Machine
end

/-! ### The acquisition state after each event (45_acquisition.md R221 to R228) -/

section
namespace Sys2Proof.Machine

/-- A detection in SEEK below the tenth counts. -/
theorem Acquisition.countDetection_of_lt {a : Acquisition} (h : a.seekCount.toNat < 9) :
    a.countDetection Config.block = { a with seekCount := a.seekCount + 1#8 } := by
  have hten : Config.block.seekDetectedThreshold = 10 := rfl
  have hsucc : (a.seekCount + 1#8).toNat = a.seekCount.toNat + 1 := by bv_omega
  simp only [Acquisition.countDetection, hten, hsucc]
  exact if_neg (by omega)

/-- The tenth detection enters SYNC with fresh counters. -/
theorem Acquisition.countDetection_of_eq {a : Acquisition} (h : a.seekCount.toNat = 9) :
    a.countDetection Config.block = ⟨.sync, 10#8, 60#8, 0#8, 0#8, 0#16, 0#32, 0#32⟩ := by
  have hcount : a.seekCount = 9#8 := BitVec.eq_of_toNat_eq h
  simp only [Acquisition.countDetection, hcount]
  rfl

/-- A missed peek below the sixth in a row counts and puts the next peek 60 ticks ahead. -/
theorem Acquisition.miss_of_lt {a : Acquisition} (h : a.missed.toNat < 5) :
    a.miss Config.block = { a with missed := a.missed + 1#8, peekIn := 60#8 } := by
  have hsix : Config.block.syncMissThreshold = 6 := rfl
  have hpeek : trunc8 Config.block.symbolTicks = 60#8 := rfl
  have hsucc : (a.missed + 1#8).toNat = a.missed.toNat + 1 := by bv_omega
  simp only [Acquisition.miss, hpeek, hsix, hsucc]
  exact if_neg (by omega)

/-- The sixth missed peek in a row counts too, and returns to SEEK. -/
theorem Acquisition.miss_of_eq {a : Acquisition} (h : a.missed.toNat = 5) :
    a.miss Config.block = { a with mode := .seek, seekCount := 0#8, missed := 6#8, peekIn := 60#8 } := by
  have hmissed : a.missed = 5#8 := BitVec.eq_of_toNat_eq h
  simp only [Acquisition.miss, hmissed]
  rfl

/-- A miss writes `MODE`, `SEEK_COUNT`, `MISSED` and `PEEK_IN`, and nothing else. -/
theorem Acquisition.miss_eq (c : Params) (a : Acquisition) :
    a.miss c =
      { a with
        mode := (a.miss c).mode, seekCount := (a.miss c).seekCount, missed := a.missed + 1#8
        peekIn := trunc8 c.symbolTicks } := by
  unfold Acquisition.miss
  dsimp only
  split <;> rfl

/-- The registers that a detected peek writes hold the offset and what it says exactly: nothing is truncated. -/
theorem Acquisition.hit_exact {a : Acquisition} {off : Int} (hoff : off.natAbs ≤ 5) (hacc : a.acc.toInt.natAbs ≤ 110) :
    (a.hit Config.block off).lastOffset.toInt = off
      ∧ ((a.hit Config.block off).peekIn.toNat : Int) = 60 + off
      ∧ (a.hit Config.block off).acc.toInt = a.acc.toInt + off := by
  have hticks : (Config.block.symbolTicks : Int) = 60 := rfl
  refine ⟨BitVec.toInt_ofInt_eq_self (by decide) (by omega) (by omega), ?_,
    BitVec.toInt_ofInt_eq_self (by decide) (by omega) (by omega)⟩
  simp only [Acquisition.hit, hticks, BitVec.toNat_ofInt]
  omega

/-- When the discipline is due in the specified hardware: both comparisons strict. -/
theorem Acquisition.disciplineDue_block_iff (a : Acquisition) :
    a.disciplineDue Config.block = true ↔ 15 < a.acc.toInt.natAbs ∧ 1000 < a.tss.toNat := by
  have htrigger : Config.block.driftTrigger = 15 := rfl
  have hticks : Config.block.minDisciplineTicks = 1000 := rfl
  simp only [Acquisition.disciplineDue, htrigger, hticks, Bool.and_eq_true, decide_eq_true_eq]

/-- The discipline check writes `ACC` and `TSS` of the acquisition state, and nothing else of it. -/
theorem State.disciplineCheck_acq {c : Params} {s t : State} (h : s.disciplineCheck c = .ok t) :
    t.acq = { s.acq with acc := t.acq.acc, tss := t.acq.tss } := by
  obtain ⟨-, rfl⟩ | ⟨-, -, -, ht⟩ := State.disciplineCheck_cases h
  · rfl
  · rw [ht]

/-- The persistence check writes `TSP` of the acquisition state, and nothing else of it. -/
theorem State.persistCheck_acq (c : Params) (s : State) :
    (s.persistCheck c).acq = { s.acq with tsp := (s.persistCheck c).acq.tsp } := by
  obtain ⟨-, h⟩ | ⟨-, h⟩ := s.persistCheck_cases c <;> rw [h]

theorem State.persistCheck_clock (c : Params) (s : State) : (s.persistCheck c).clock = s.clock := by
  rw [State.persistCheck_eq]

end Sys2Proof.Machine
end

/-! ### A TICK in SEEK (45_acquisition.md R221, R222) -/

section
namespace Sys2Proof.Machine

/-- A TICK leaves the stream of `State.streamAfter`. -/
theorem exec_tick_stream {b : Bool} {s t : State} (h : exec (.tick b) s = .next t) : t.stream = s.streamAfter b := by
  obtain ⟨hstream, -, -⟩ := exec_tick_ssShiftOpt h
  rw [hstream, State.streamAfter]
  cases s.pushes b with
  | none => rfl
  | some sym => exact State.ssShift_stream _ _ _

/-- In SEEK a TICK completes, whatever it detects. -/
theorem exec_tick_of_seek (b : Bool) {s : State} (hm : s.acq.mode = .seek) :
    exec (.tick b) s =
      .next (((s.takeSample Config.block b).seekTick Config.block).finishTick Config.block).complete := by
  refine exec_tick_next_iff.mpr ⟨_, ?_, rfl⟩
  rw [State.acquisitionTick, State.takeSample_acq, hm]

/-- In SEEK a TICK writes the acquisition state by what it detects. -/
theorem State.seekTick_acq {b : Bool} {s : State} (hm : s.acq.mode = .seek) :
    ((s.takeSample Config.block b).seekTick Config.block).acq =
      if (s.pushes b).isSome then s.acq.counted.countDetection Config.block else s.acq.counted := by
  rw [State.pushes_of_seek hm]
  obtain ⟨hd, h⟩ | ⟨sym, hd, h⟩ := (s.takeSample Config.block b).seekTick_cases Config.block <;> rw [h, hd] <;> rfl

theorem State.seekTick_clock (c : Params) (s : State) : (s.seekTick c).clock = s.clock := by
  obtain ⟨-, h⟩ | ⟨sym, -, h⟩ := s.seekTick_cases c <;> rw [h]
  exact State.ssShift_clock c sym s

theorem State.seekTick_flag (c : Params) (s : State) {g : Flag} (hg : Flag.validFrame ≠ g) :
    (s.seekTick c).flag g = s.flag g := by
  obtain ⟨-, h⟩ | ⟨sym, -, h⟩ := s.seekTick_cases c <;> rw [h]
  exact State.ssShift_flag c sym s hg

/-- What a TICK in SEEK leaves of the acquisition state, `SCALED` and the flags of the two checks. -/
theorem exec_tick_in_seek {b : Bool} {s t : State} (h : exec (.tick b) s = .next t) (hm : s.acq.mode = .seek) :
    t.acq = (if (s.pushes b).isSome then s.acq.counted.countDetection Config.block else s.acq.counted)
      ∧ t.clock.scaled = s.clock.scaled
      ∧ ∀ g, g = .paramsUnsaved ∨ g = .tickIntervalChanged → t.flag g = s.flag g := by
  have ht := Host.Outcome.next.inj (h.symm.trans (exec_tick_of_seek b hm))
  refine ⟨?acq, ?scaled, fun g hg => ?flag⟩
  case acq => rw [ht, State.complete_acq, State.finishTick_acq, State.seekTick_acq hm]
  case scaled =>
    rw [ht, State.complete_clock, State.finishTick_clock, Clock.cadence_scaled, State.seekTick_clock,
      State.takeSample_clock]
  case flag =>
    rw [ht, State.finishTick_complete_flag _ _ hg, State.seekTick_flag _ _ (by rintro rfl; simp at hg)]
    exact State.flag_congr (State.takeSample_flags _ _ _) g

/-- Settles O40: step 5 in SEEK runs no check (`exec_tick_in_seek`), and what a detection counts is said by
`Acquisition.countDetection_of_lt` and `Acquisition.countDetection_of_eq`. -/
theorem tickInSeek : Obligations.TickInSeek := by
  intro b s hm _
  obtain ⟨t, hx⟩ : ∃ t, exec (.tick b) s = .next t := ⟨_, exec_tick_of_seek b hm⟩
  obtain ⟨hacq, hscaled, hflag⟩ := exec_tick_in_seek hx hm
  refine ⟨t, hx, hscaled, exec_tick_stream hx, hflag _ (.inl rfl), hflag _ (.inr rfl), ?none, ?counts, ?tenth⟩
  case none =>
    intro hp
    rw [hacq, hp]
    rfl
  case counts =>
    intro sym hp hlt
    rw [hacq, hp]
    exact Acquisition.countDetection_of_lt (a := s.acq.counted) hlt
  case tenth =>
    intro sym hp heq
    rw [hacq, hp]
    exact Acquisition.countDetection_of_eq (a := s.acq.counted) heq

end Sys2Proof.Machine
end

/-! ### The countdown and the peek of a TICK in SYNC (45_acquisition.md R223, R224) -/

section
namespace Sys2Proof.Machine

/-- The state inside a TICK of SYNC in which the countdown and any peek are over, and the two checks are still to run. -/
def State.afterPeek (b : Bool) (s : State) : State := (s.takeSample Config.block b).countDown Config.block

/-- Between peeks the countdown falls by one. -/
theorem State.afterPeek_acq_between (b : Bool) {s : State} (hp : s.acq.peekIn ≠ 1#8) :
    (s.afterPeek b).acq = { s.acq.counted with peekIn := s.acq.peekIn - 1#8 } := by
  obtain ⟨-, h⟩ | ⟨hp', -⟩ | ⟨hp', -⟩ := (s.takeSample Config.block b).countDown_cases Config.block
  · rw [State.afterPeek, h]
    rfl
  · exact absurd hp' hp
  · exact absurd hp' hp

/-- A peek that detects writes the acquisition state by its offset. -/
theorem State.afterPeek_acq_hit {b : Bool} {s : State} {sym : Symbol} {off : Int} (hp : s.acq.peekIn = 1#8)
    (hd : detectSync Config.block (s.takeSample Config.block b).board = some (sym, off)) :
    (s.afterPeek b).acq = s.acq.counted.hit Config.block off := by
  obtain ⟨hp', -⟩ | ⟨-, sym', off', hd', h⟩ | ⟨-, hd', -⟩ :=
    (s.takeSample Config.block b).countDown_cases Config.block
  · exact absurd hp hp'
  · obtain ⟨-, rfl⟩ : sym = sym' ∧ off = off' := by simpa using hd.symm.trans hd'
    rw [State.afterPeek, h]
    rfl
  · simp [hd] at hd'

/-- A peek that misses counts the miss. -/
theorem State.afterPeek_acq_miss {b : Bool} {s : State} (hp : s.acq.peekIn = 1#8)
    (hd : detectSync Config.block (s.takeSample Config.block b).board = none) :
    (s.afterPeek b).acq = s.acq.counted.miss Config.block := by
  obtain ⟨hp', -⟩ | ⟨-, sym, off, hd', -⟩ | ⟨-, -, h⟩ := (s.takeSample Config.block b).countDown_cases Config.block
  · exact absurd hp hp'
  · simp [hd] at hd'
  · rw [State.afterPeek, h]
    rfl

theorem State.afterPeek_clock (b : Bool) (s : State) : (s.afterPeek b).clock = s.clock :=
  State.countDown_keeps (P := fun u => u.clock = s.clock) (fun u sym hu => (u.ssShift_clock _ sym).trans hu)
    (fun _ _ hu => hu) rfl

/-- The countdown and the peek raise no flag but `valid_frame`. -/
theorem State.afterPeek_flag (b : Bool) (s : State) {g : Flag} (hg : Flag.validFrame ≠ g) :
    (s.afterPeek b).flag g = s.flag g :=
  State.countDown_keeps (P := fun u => u.flag g = s.flag g) (fun u sym hu => (u.ssShift_flag _ sym hg).trans hu)
    (fun _ _ hu => hu) rfl

/-- The countdown and the peek leave the two counters as step 4 counted them. -/
theorem State.afterPeek_counters (b : Bool) (s : State) :
    (s.afterPeek b).acq.tss = s.acq.tss + 1#32 ∧ (s.afterPeek b).acq.tsp = s.acq.tsp + 1#32 := by
  by_cases hp : s.acq.peekIn = 1#8
  · cases hd : detectSync Config.block (s.takeSample Config.block b).board with
    | none => rw [State.afterPeek_acq_miss hp hd, Acquisition.miss_eq]; exact ⟨rfl, rfl⟩
    | some found => rw [State.afterPeek_acq_hit hp hd]; exact ⟨rfl, rfl⟩
  · rw [State.afterPeek_acq_between b hp]
    exact ⟨rfl, rfl⟩

/-- A detected offset of a TICK lies in −5..+5 (42_symbol_detector.md R165). -/
theorem State.Inv.detected_offset_le {b : Bool} {s : State} {sym : Symbol} {off : Int} (h : s.Inv)
    (hd : detectSync Config.block (s.takeSample Config.block b).board = some (sym, off)) : off.natAbs ≤ 5 := by
  obtain ⟨k, rfl⟩ := detectSync_offset hd
  exact Scoreboard.offset_le (State.takeSample_holds h b k).1

/-- Fewer than six misses stand behind a TICK in SYNC. -/
theorem State.Inv.missed_lt {s : State} (h : s.Inv) (hm : s.acq.mode = .sync) : s.acq.missed.toNat < 6 := by
  obtain ⟨-, -, -, -, -, hmissed, -⟩ := h.acq
  exact hmissed hm

/-- Of a TICK in SYNC only the peek that misses for the sixth time returns to SEEK (R224). -/
theorem State.Inv.afterPeek_seek_iff {s : State} (h : s.Inv) (hm : s.acq.mode = .sync) (b : Bool) :
    (s.afterPeek b).acq.mode = .seek ↔
      s.acq.peekIn = 1#8 ∧ detectSync Config.block (s.takeSample Config.block b).board = none
        ∧ s.acq.missed.toNat = 5 := by
  by_cases hp : s.acq.peekIn = 1#8
  · cases hd : detectSync Config.block (s.takeSample Config.block b).board with
    | some found => simp [State.afterPeek_acq_hit hp hd, Acquisition.hit, hm]
    | none =>
      have hlt := h.missed_lt hm
      rw [State.afterPeek_acq_miss hp hd]
      by_cases hfive : s.acq.missed.toNat = 5
      · rw [Acquisition.miss_of_eq (a := s.acq.counted) hfive]
        simp [hp, hfive]
      · rw [Acquisition.miss_of_lt (a := s.acq.counted) (by change s.acq.missed.toNat < 5; omega)]
        simp [hm, hfive]
  · simp [State.afterPeek_acq_between b hp, hm, hp]

/-- The accumulated offset after any peek, exactly (R224, R225). -/
theorem State.Inv.afterPeek_acc {s : State} (h : s.Inv) (b : Bool) :
    (s.afterPeek b).acq.acc.toInt =
      s.acq.acc.toInt
        + (if s.acq.peekIn.toNat = 1 then
            ((detectSync Config.block (s.takeSample Config.block b).board).map Prod.snd).getD 0
          else 0) := by
  obtain ⟨hacc, -⟩ := h.offset
  by_cases hp : s.acq.peekIn = 1#8
  · rw [if_pos (by rw [hp]; rfl)]
    cases hd : detectSync Config.block (s.takeSample Config.block b).board with
    | none =>
      rw [State.afterPeek_acq_miss hp hd, Acquisition.miss_eq]
      exact (Int.add_zero _).symm
    | some found =>
      obtain ⟨-, -, hsum⟩ := Acquisition.hit_exact (a := s.acq.counted) (h.detected_offset_le hd) hacc
      rw [State.afterPeek_acq_hit hp hd]
      exact hsum
  · have hone : s.acq.peekIn.toNat ≠ 1 := fun hone => hp (BitVec.eq_of_toNat_eq hone)
    rw [State.afterPeek_acq_between b hp, if_neg hone, Int.add_zero]

end Sys2Proof.Machine
end

/-! ### A TICK in SYNC, as a whole (45_acquisition.md R223) -/

section
namespace Sys2Proof.Machine

/-- A TICK in SYNC ends where the countdown and any peek leave it when they return to SEEK, and otherwise after the two
checks. -/
theorem exec_tick_of_sync_cases {b : Bool} {s t : State} (h : exec (.tick b) s = .next t) (hm : s.acq.mode = .sync) :
    ((s.afterPeek b).acq.mode = .seek ∧ t = ((s.afterPeek b).finishTick Config.block).complete) ∨
      ((s.afterPeek b).acq.mode = .sync ∧ ∃ u, (s.afterPeek b).disciplineCheck Config.block = .ok u
        ∧ t = ((u.persistCheck Config.block).finishTick Config.block).complete) := by
  obtain ⟨mid, hmid, rfl⟩ := exec_tick_next_iff.mp h
  obtain ⟨hseek, -⟩ | ⟨-, hsync⟩ := State.acquisitionTick_cases hmid
  · rw [State.takeSample_acq, hm] at hseek
    cases hseek
  · obtain ⟨hmode, rfl⟩ | ⟨hmode, u, hu, rfl⟩ := State.syncTick_cases hsync
    · exact .inl ⟨hmode, rfl⟩
    · exact .inr ⟨hmode, u, hu, rfl⟩

/-- An adjust that is due meets a positive `apparent_ticks`: `|ACC|` is at most 110 (46_clock_discipline.md R258). -/
theorem Acquisition.Tracking.apparentTicks_pos {n : Nat} {a : Acquisition} (h : a.Tracking n)
    (hdue : a.disciplineDue Config.block = true) : 0 < a.apparentTicks := by
  obtain ⟨-, htss⟩ := a.disciplineDue_block_iff.mp hdue
  have hacc := h.acc_le
  unfold Acquisition.apparentTicks
  omega

/-- TICK completes from every state that meets the invariant (46_clock_discipline.md R258). -/
theorem State.Inv.tick_completes {s : State} (h : s.Inv) (b : Bool) : ∃ t, Machine.exec (.tick b) s = .next t := by
  cases hm : s.acq.mode with
  | seek => exact ⟨_, exec_tick_of_seek b hm⟩
  | sync =>
    have hacquired : ∃ mid, (s.takeSample Config.block b).acquisitionTick Config.block = .ok mid := by
      obtain ⟨htrack, hlate⟩ := Acquisition.counted_tracking h.acq h.offset hm
      have hdown := State.countDown_tracking (s := s.takeSample Config.block b) htrack hlate
        fun k => (State.takeSample_holds h b k).1
      simp only [State.acquisitionTick, State.takeSample_acq, hm, State.syncTick]
      obtain ⟨hsync, htracked⟩ | ⟨hseek, -⟩ := hdown
      · obtain ⟨u, hu⟩ := State.disciplineCheck_isOk htracked.apparentTicks_pos
        simp [hsync, hu]
      · simp [hseek]
    obtain ⟨mid, hmid⟩ := hacquired
    exact ⟨_, exec_tick_next_iff.mpr ⟨mid, hmid, rfl⟩⟩

/-- Beside `ACC`, `TSS` and `TSP`, a TICK in SYNC leaves the acquisition state as the countdown and any peek do. -/
theorem exec_tick_of_sync_acq {b : Bool} {s t : State} (h : exec (.tick b) s = .next t) (hm : s.acq.mode = .sync) :
    t.acq = { (s.afterPeek b).acq with acc := t.acq.acc, tss := t.acq.tss, tsp := t.acq.tsp } := by
  obtain ⟨-, rfl⟩ | ⟨-, u, hu, rfl⟩ := exec_tick_of_sync_cases h hm <;>
    rw [State.complete_acq, State.finishTick_acq]
  rw [State.persistCheck_acq, State.disciplineCheck_acq hu]

/-- Settles O41: the countdown is what `State.afterPeek_acq_between` says, and the checks leave it. -/
theorem tickInSyncWithoutAPeek : Obligations.TickInSyncWithoutAPeek := by
  intro b s h hm hlt
  have hp : s.acq.peekIn ≠ 1#8 := fun he => by rw [he] at hlt; exact absurd hlt (by decide)
  obtain ⟨t, hx⟩ := h.tick_completes b
  have hstream := exec_tick_stream hx
  rw [State.streamAfter, State.pushes_between_peeks hm hp] at hstream
  have hdown : (s.acq.peekIn - 1#8).toNat = s.acq.peekIn.toNat - 1 := by bv_omega
  refine ⟨t, hx, ?_⟩
  rw [exec_tick_of_sync_acq hx hm, State.afterPeek_acq_between b hp]
  exact ⟨hm, hdown, rfl, rfl, rfl, hstream⟩

/-- Settles O42: the detected peek is `Acquisition.hit`, exact for an offset in -5..+5, and the checks leave it. -/
theorem peekWithADetection : Obligations.PeekWithADetection := by
  intro b s sym off h hm hone hd
  have hp : s.acq.peekIn = 1#8 := BitVec.eq_of_toNat_eq hone
  have hoff := h.detected_offset_le hd
  obtain ⟨hacc, -⟩ := h.offset
  obtain ⟨hlast, hpeek, -⟩ := Acquisition.hit_exact (a := s.acq.counted) hoff hacc
  obtain ⟨t, hx⟩ := h.tick_completes b
  have hpush := State.pushes_of_peek hm hp (b := b)
  rw [hd] at hpush
  have hstream := (exec_tick_stream hx).trans (State.streamAfter_of_push hpush)
  refine ⟨t, hx, ?_⟩
  rw [exec_tick_of_sync_acq hx hm, State.afterPeek_acq_hit hp hd, hstream]
  exact ⟨hm, rfl, rfl, hlast, hpeek, by omega, by omega, pushSymbol_last _ _⟩

/-- Settles O43: the miss is `Acquisition.miss`, which the checks leave, and the sixth returns to SEEK before them. -/
theorem peekWithAMiss : Obligations.PeekWithAMiss := by
  intro b s h hm hone hd
  have hp : s.acq.peekIn = 1#8 := BitVec.eq_of_toNat_eq hone
  have hlt := h.missed_lt hm
  have hsucc : (s.acq.missed + 1#8).toNat = s.acq.missed.toNat + 1 := by bv_omega
  have hafter := State.afterPeek_acq_miss hp hd
  obtain ⟨t, hx⟩ := h.tick_completes b
  have hpush := State.pushes_of_peek hm hp (b := b)
  rw [hd] at hpush
  have hstream := (exec_tick_stream hx).trans (State.streamAfter_of_push hpush)
  have hacq := exec_tick_of_sync_acq hx hm
  rw [hafter, Acquisition.miss_eq] at hacq
  refine ⟨t, hx, ?missed, ?peekIn, ?lastOffset, ?stream, fun hfour => ?stays, fun hfive => ?returns⟩
  case missed => rw [hacq]; exact hsucc
  case peekIn => rw [hacq]; rfl
  case lastOffset => rw [hacq]
  case stream =>
    rw [hstream]
    exact pushSymbol_last _ _
  case stays =>
    rw [hacq, Acquisition.miss_of_lt (a := s.acq.counted) hfour]
    exact ⟨hm, rfl⟩
  case returns =>
    rw [Acquisition.miss_of_eq (a := s.acq.counted) hfive] at hafter
    obtain ⟨-, ht⟩ | ⟨hsync, -⟩ := exec_tick_of_sync_cases hx hm
    · have hflag (g : Flag) (hg : g = .paramsUnsaved ∨ g = .tickIntervalChanged) : t.flag g = s.flag g := by
        rw [ht, State.finishTick_complete_flag _ _ hg, State.afterPeek_flag b s (by rintro rfl; simp at hg)]
      have hclock : t.clock.scaled = s.clock.scaled := by
        rw [ht, State.complete_clock, State.finishTick_clock, Clock.cadence_scaled, State.afterPeek_clock]
      have hsix : t.acq = (s.afterPeek b).acq := by rw [ht, State.complete_acq, State.finishTick_acq]
      rw [hsix, hafter]
      exact ⟨rfl, rfl, rfl, rfl, rfl, hclock, hflag _ (.inl rfl), hflag _ (.inr rfl)⟩
    · rw [hafter] at hsync
      cases hsync

end Sys2Proof.Machine
end

/-! ### The two checks of a TICK that stays in SYNC (45_acquisition.md R227, R228) -/

section
namespace Sys2Proof.Machine

/-- A TICK of SYNC that is not the sixth missed peek completes after both checks. -/
theorem State.Inv.tick_checks {s : State} (h : s.Inv) (hm : s.acq.mode = .sync) {b : Bool}
    (hstays : s.acq.peekIn.toNat = 1 →
      s.acq.missed.toNat < 5 ∨ detectSync Config.block (s.takeSample Config.block b).board ≠ none) :
    ∃ u, (s.afterPeek b).disciplineCheck Config.block = .ok u
      ∧ Machine.exec (.tick b) s = .next ((u.persistCheck Config.block).finishTick Config.block).complete := by
  obtain ⟨t, hx⟩ := h.tick_completes b
  obtain ⟨hseek, -⟩ | ⟨-, u, hu, rfl⟩ := exec_tick_of_sync_cases hx hm
  · obtain ⟨hp, hd, hfive⟩ := (h.afterPeek_seek_iff hm b).mp hseek
    obtain hlt | hne := hstays (by rw [hp]; rfl)
    · omega
    · exact absurd hd hne
  · exact ⟨u, hu, hx⟩

/-- The adjusted `SCALED` of the specified hardware, as it is stored (46_clock_discipline.md R252, R253). -/
theorem trunc32_adjustedScaled_toNat (scaled n a : Nat) :
    (trunc32 (adjustedScaled Config.block scaled n a)).toNat
      = min (max ((scaled * n / a + scaled) / 2) 2026666) 2239998 := by
  obtain ⟨-, hhi⟩ := adjustedScaled_block_range scaled n a
  rw [trunc32, BitVec.toNat_ofNat, Nat.mod_eq_of_lt (by omega)]
  rfl

/-- What the TICK leaves of the fields that the discipline writes is what the discipline check leaves. -/
theorem exec_tick_discipline_fields {b : Bool} {s t u : State}
    (hu : (s.afterPeek b).disciplineCheck Config.block = .ok u)
    (ht : t = ((u.persistCheck Config.block).finishTick Config.block).complete) :
    t.clock.scaled = u.clock.scaled ∧ t.acq.acc = u.acq.acc ∧ t.acq.tss = u.acq.tss
      ∧ t.flag .tickIntervalChanged
        = (s.flag .tickIntervalChanged || decide (u.clock.scaled ≠ s.clock.scaled)) := by
  have hacq : t.acq = { u.acq with tsp := t.acq.tsp } := by
    rw [ht, State.complete_acq, State.finishTick_acq, State.persistCheck_acq]
  refine ⟨?scaled, by rw [hacq], by rw [hacq], ?flag⟩
  case scaled =>
    rw [ht, State.complete_clock, State.finishTick_clock, Clock.cadence_scaled, State.persistCheck_clock]
  case flag =>
    rw [ht, State.finishTick_complete_flag _ _ (.inr rfl), State.persistCheck_flag _ _ (by decide),
      State.disciplineCheck_flag hu, State.afterPeek_flag b s (by decide), State.afterPeek_clock,
      decide_eq_true rfl, Bool.and_true]

/-- Settles O44: the TICK leaves `SCALED`, `ACC`, `TSS` and the flag as the discipline check does
(`State.disciplineCheck_cases`), from the `ACC` of `State.Inv.afterPeek_acc` and the counted `TSS`. -/
theorem disciplineInSync : Obligations.DisciplineInSync := by
  intro b s A T h hm hT hstays hA
  obtain ⟨u, hu, hx⟩ := h.tick_checks hm hstays
  obtain ⟨hscaled, hacc', htss', hflag⟩ := exec_tick_discipline_fields hu rfl
  refine ⟨_, hx, ?_⟩
  rw [hflag, hscaled, hacc', htss']
  have hacc : (s.afterPeek b).acq.acc.toInt = A := by
    rw [h.afterPeek_acc b, hA]
    cases detectSync Config.block (s.takeSample Config.block b).board <;> rfl
  have htss : (s.afterPeek b).acq.tss.toNat = T := by
    obtain ⟨hcounted, -⟩ := s.afterPeek_counters b
    rw [hcounted, hT, BitVec.toNat_add]
    rfl
  have hdue := (s.afterPeek b).acq.disciplineDue_block_iff
  rw [hacc, htss] at hdue
  obtain ⟨hnot, rfl⟩ | ⟨hfires, hpos, hclock, he⟩ := State.disciplineCheck_cases hu
  · rw [State.afterPeek_clock]
    exact ⟨fun h15 h1000 => by simp [hdue.mpr ⟨h15, h1000⟩] at hnot, fun _ => ⟨rfl, hacc, htss, by simp⟩⟩
  · rw [Acquisition.apparentTicks, hacc, htss] at hpos hclock
    rw [State.afterPeek_clock] at hclock
    have hstored := trunc32_adjustedScaled_toNat s.clock.scaled.toNat T ((T : Int) - A).toNat
    refine ⟨fun _ _ => ⟨hpos, ?_, by rw [he], by rw [he], rfl⟩, fun hnot => absurd (hdue.mp hfires) hnot⟩
    rw [hclock]
    exact hstored

/-- Settles O45: the TICK ends as the persistence check leaves it (`State.persistCheck_cases`), from the counted `TSP`,
which the discipline check leaves. -/
theorem persistenceRequestInSync : Obligations.PersistenceRequestInSync := by
  intro b s h hm hstays
  obtain ⟨u, hu, hx⟩ := h.tick_checks hm hstays
  have htsp : u.acq.tsp = s.acq.tsp + 1#32 := by
    obtain ⟨-, htsp⟩ := s.afterPeek_counters b
    rw [State.disciplineCheck_acq hu]
    exact htsp
  have hflag : u.flag .paramsUnsaved = s.flag .paramsUnsaved := by
    rw [State.disciplineCheck_flag hu, State.afterPeek_flag b s (by decide)]
    simp
  have hlimit : Config.block.persistAfterTicks = 500000 := rfl
  refine ⟨_, hx, ?_⟩
  rw [State.finishTick_complete_flag _ _ (.inl rfl), State.complete_acq, State.finishTick_acq]
  obtain ⟨hlt, he⟩ | ⟨hle, he⟩ := u.persistCheck_cases Config.block
  · rw [hlimit, htsp] at hlt
    rw [he, htsp, hflag]
    exact ⟨fun hlast => by bv_omega, fun hbefore => ⟨by bv_omega, rfl⟩⟩
  · rw [hlimit, htsp] at hle
    have hraised : (u.persistCheck Config.block).flag .paramsUnsaved = true := by
      rw [State.flag_congr (t := u.raiseFlag .paramsUnsaved) (by rw [he]; rfl), State.flag_raiseFlag,
        decide_eq_true rfl, Bool.or_true]
    exact ⟨fun _ => ⟨by rw [he], hraised⟩, fun hbefore => by bv_omega⟩

end Sys2Proof.Machine
end

/-! ### MODE over every step (45_acquisition.md R221, R224, R226) -/

section
namespace Sys2Proof.Machine

/-- A TICK that leaves SYNC peeks the sixth miss in a row. -/
theorem State.Inv.tick_leaves_sync {b : Bool} {s t : State} (h : s.Inv) (hx : Machine.exec (.tick b) s = .next t)
    (hm : s.acq.mode = .sync) (ht : t.acq.mode = .seek) :
    s.acq.peekIn.toNat = 1 ∧ s.acq.missed.toNat = 5 ∧ s.pushes b = some .missing := by
  have hacq := exec_tick_of_sync_acq hx hm
  rw [hacq] at ht
  obtain ⟨hp, hd, hfive⟩ := (h.afterPeek_seek_iff hm b).mp ht
  exact ⟨by rw [hp]; rfl, hfive, by rw [State.pushes_of_peek hm hp, hd]; rfl⟩

/-- A TICK that enters SYNC counts the tenth detection. -/
theorem State.Inv.tick_enters_sync {b : Bool} {s t : State} (h : s.Inv) (hx : Machine.exec (.tick b) s = .next t)
    (hm : s.acq.mode = .seek) (ht : t.acq.mode = .sync) :
    s.acq.seekCount.toNat = 9 ∧ (s.pushes b).isSome = true := by
  obtain ⟨hcount, -⟩ := h.acq
  have hten := hcount hm
  obtain ⟨hacq, -, -⟩ := exec_tick_in_seek hx hm
  rw [hacq] at ht
  split at ht
  · next hpush =>
    refine ⟨?_, hpush⟩
    by_contra hne
    have hlt : s.acq.counted.seekCount.toNat < 9 := by
      change s.acq.seekCount.toNat < 9
      omega
    rw [Acquisition.countDetection_of_lt hlt] at ht
    simp [hm] at ht
  · simp [hm] at ht

/-- RESET is in SEEK (70_reset_and_hazards.md R381). -/
theorem State.resetBlock_mode (c : Params) (p : Bool) (s : State) : (s.resetBlock c p).acq.mode = .seek := rfl

/-- A legal command that changes MODE is RESET or a TICK. -/
theorem exec_mode_changes {i : Instr} {s t : State} (h : exec i s = .next t) (hne : t.acq.mode ≠ s.acq.mode) :
    (∃ r, i = .reset r ∧ t.acq.mode = .seek) ∨ ∃ b, i = .tick b := by
  cases i with
  | tick b => exact .inr ⟨b, rfl⟩
  | rd a => rw [exec_rd] at h; cases h; exact absurd rfl hne
  | clrf m => rw [exec_clrf] at h; cases h; exact absurd rfl hne
  | reset p => rw [exec_reset] at h; cases h; exact .inl ⟨p, rfl, s.resetBlock_mode Config.block p⟩

/-- A step that changes MODE executes a presented RESET or TICK; an idle step and an illegal word keep it. -/
theorem step_mode_changes {s t : State} (h : step s = .next t) (hne : t.acq.mode ≠ s.acq.mode) :
    ∃ p rest, s.schedule = p :: rest
      ∧ ((∃ r, decode p.word = .ok (.reset r) ∧ t.acq.mode = .seek)
        ∨ ∃ b, decode p.word = .ok (.tick b) ∧ exec (.tick b) (s.accept p rest) = .next t) := by
  obtain ⟨-, rfl⟩ | ⟨p, rest, hs, -, hx⟩ := step_cases h
  · exact absurd rfl hne
  · refine ⟨p, rest, hs, ?_⟩
    obtain ⟨i, hi, hx⟩ | ⟨k, -, rfl⟩ := execute_cases hx
    · obtain ⟨r, rfl, hseek⟩ | ⟨b, rfl⟩ := exec_mode_changes hx hne
      · exact .inl ⟨r, hi, hseek⟩
      · exact .inr ⟨b, hi, hx⟩
    · exact absurd rfl hne

/-- Presenting a command does not change what its TICK pushes. -/
theorem State.pushes_accept (p : Presentation) (rest : List Presentation) (b : Bool) (s : State) :
    (s.accept p rest).pushes b = s.pushes b := by
  have hboard : ((s.accept p rest).takeSample Config.block b).board = (s.takeSample Config.block b).board := rfl
  simp only [State.pushes, State.accept_acq, hboard]

/-- Settles O46: `step_mode_changes` says which commands change MODE, and the two lemmas on TICK say at which
threshold. -/
theorem modeChangesOnlyAtItsThresholds : Obligations.ModeChangesOnlyAtItsThresholds := by
  intro s t h hstep
  refine ⟨fun hm ht => ?leaves, fun hm ht => ?enters⟩
  case leaves =>
    obtain ⟨p, rest, hs, ⟨r, hr, -⟩ | ⟨b, hb, hx⟩⟩ := step_mode_changes hstep (by rw [ht, hm]; decide)
    · exact ⟨p, rest, hs, .inl ⟨r, hr⟩⟩
    · have hsixth := (h.accept p rest).tick_leaves_sync hx hm ht
      rw [State.pushes_accept] at hsixth
      exact ⟨p, rest, hs, .inr ⟨b, hb, hsixth⟩⟩
  case enters =>
    obtain ⟨p, rest, hs, ⟨r, -, hseek⟩ | ⟨b, hb, hx⟩⟩ := step_mode_changes hstep (by rw [ht, hm]; decide)
    · rw [hseek] at ht
      cases ht
    · have htenth := (h.accept p rest).tick_enters_sync hx hm ht
      rw [State.pushes_accept] at htenth
      exact ⟨p, rest, b, hs, hb, htenth⟩

end Sys2Proof.Machine
end

/-! ### MULDIV, by its binary algorithm (46_clock_discipline.md R251) -/

section
namespace Sys2Proof.Machine

/-- One bit of the binary muldiv: from the quotient and remainder of `x`, those of `2 * x`, plus `a` when the bit is
1. -/
theorem muldivStep_div_mod {c : Nat} (hc : 0 < c) (a x : Nat) (bit : Bool) :
    muldivStep (a / c) (a % c) c (x / c, x % c) bit = ((2 * x + bit.toNat * a) / c, (2 * x + bit.toNat * a) % c) := by
  have hadd (y z : Nat) : (if c ≤ y % c + z % c then (y / c + z / c + 1, y % c + z % c - c)
      else (y / c + z / c, y % c + z % c)) = ((y + z) / c, (y + z) % c) := by
    rw [Nat.add_div hc, Nat.add_mod_eq_ite]
    split <;> rfl
  simp only [muldivStep, two_mul, hadd]
  cases bit with
  | false => simp
  | true => simp

theorem bitsMsbFirst_succ (width b : Nat) :
    bitsMsbFirst (width + 1) b = b.testBit width :: bitsMsbFirst width b := by
  simp [bitsMsbFirst, List.range_succ]

/-- The loop of the binary muldiv: with the quotient and remainder of `a * m` for the bits `m` read so far, `width` more
bits of `b` append themselves to `m`. -/
theorem foldl_muldivStep_bitsMsbFirst {c : Nat} (hc : 0 < c) (a b width m : Nat) :
    (bitsMsbFirst width b).foldl (muldivStep (a / c) (a % c) c) (a * m / c, a * m % c)
      = (a * (m * 2 ^ width + b % 2 ^ width) / c, a * (m * 2 ^ width + b % 2 ^ width) % c) := by
  induction width generalizing m with
  | zero => simp [bitsMsbFirst, Nat.mod_one]
  | succ width ih =>
    have hbit : 2 * (a * m) + (b.testBit width).toNat * a = a * (2 * m + (b.testBit width).toNat) := by ring
    have hread : (2 * m + (b.testBit width).toNat) * 2 ^ width + b % 2 ^ width
        = m * 2 ^ (width + 1) + b % 2 ^ (width + 1) := by
      rw [Nat.mod_pow_succ, Nat.toNat_testBit]
      ring
    rw [bitsMsbFirst_succ, List.foldl_cons, muldivStep_div_mod hc, hbit, ih, hread]

/-- Settles O47: the floor is Mathlib's on `Nat`, and the binary algorithm is `foldl_muldivStep_bitsMsbFirst` from no
bits read. -/
theorem muldivIsTheExactFloor : Obligations.MuldivIsTheExactFloor := by
  intro width a b c hc hb
  refine ⟨Nat.div_mul_le_self _ _, ?greatest, ?binary⟩
  case greatest => simpa [muldiv, mul_comm] using Nat.lt_mul_div_succ (a * b) hc
  case binary =>
    have hloop := foldl_muldivStep_bitsMsbFirst hc a b width 0
    rwa [mul_zero, Nat.zero_div, Nat.zero_mod, zero_mul, zero_add, Nat.mod_eq_of_lt hb] at hloop

end Sys2Proof.Machine
end

/-! ### The adjust (46_clock_discipline.md R252, R253, R257) -/

section
namespace Sys2Proof.Machine

/-- An adjust with no fewer local than apparent ticks does not lower `SCALED`. -/
theorem le_adjustedScaled {scaled n a : Nat} (hhi : scaled ≤ 2239998) (ha : 0 < a) (han : a ≤ n) :
    scaled ≤ adjustedScaled Config.block scaled n a := by
  have hquot : scaled ≤ muldiv scaled n a := (Nat.le_div_iff_mul_le ha).mpr (Nat.mul_le_mul_left scaled han)
  have hmax : Config.block.scaledMax = 2239998 := rfl
  simp only [adjustedScaled, clamp, hmax]
  omega

/-- An adjust with no more local than apparent ticks does not raise `SCALED`. -/
theorem adjustedScaled_le {scaled n a : Nat} (hlo : 2026666 ≤ scaled) (hna : n ≤ a) :
    adjustedScaled Config.block scaled n a ≤ scaled := by
  have hquot : muldiv scaled n a ≤ scaled :=
    Nat.div_le_of_le_mul (by rw [mul_comm a]; exact Nat.mul_le_mul_left scaled hna)
  have hmin : Config.block.scaledMin = 2026666 := rfl
  simp only [adjustedScaled, clamp, hmin]
  omega

/-- Settles O48: the apparent ticks are below the local ones exactly when `A > 0`. -/
theorem adjustFollowsTheSignOfTheOffset : Obligations.AdjustFollowsTheSignOfTheOffset := by
  intro scaled T A hlo hhi hpos
  obtain ⟨hmin, hmax⟩ := adjustedScaled_block_range scaled T ((T : Int) - A).toNat
  have hraises (hA : 0 ≤ A) : scaled ≤ adjustedScaled Config.block scaled T ((T : Int) - A).toNat :=
    le_adjustedScaled hhi (by omega) (by omega)
  have hlowers (hA : A ≤ 0) : adjustedScaled Config.block scaled T ((T : Int) - A).toNat ≤ scaled :=
    adjustedScaled_le hlo (by omega)
  exact ⟨hmin, hmax, fun hA => hraises hA.le, fun hA => hlowers hA.le,
    fun hA => le_antisymm (hlowers hA.le) (hraises hA.ge)⟩

end Sys2Proof.Machine
end

/-! ### One cadence step, and the TICK that takes it (46_clock_discipline.md R255) -/

section
namespace Sys2Proof.Machine

/-- The accumulator after a cadence step, with `FRAC` the exact remainder. -/
theorem Clock.nextFracAcc_eq {k : Clock} (h : k.scaled.toNat ≤ 2239998) :
    k.nextFracAcc Config.block = (k.fracAcc.toNat + k.scaled.toNat % 64) % 64 := by
  rw [Clock.nextFracAcc, (Clock.views_of_inRange h).2]
  rfl

/-- What a cadence step stores in `FRAC_ACC`: nothing is truncated. -/
theorem Clock.cadence_fracAcc {k : Clock} (h : k.scaled.toNat ≤ 2239998) :
    (k.cadence Config.block).fracAcc.toNat = (k.fracAcc.toNat + k.scaled.toNat % 64) % 64 := by
  simp only [Clock.cadence, Clock.nextFracAcc_eq h, trunc8, BitVec.toNat_ofNat]
  omega

/-- A step is long exactly when the stored accumulator fell below `FRAC`. -/
theorem Clock.isLong_iff {k : Clock} (h : k.scaled.toNat ≤ 2239998) :
    k.isLong Config.block = true ↔ (k.cadence Config.block).fracAcc.toNat < k.scaled.toNat % 64 := by
  rw [Clock.isLong, decide_eq_true_iff, Clock.nextFracAcc_eq h, (Clock.views_of_inRange h).2, Clock.cadence_fracAcc h]

/-- The period that a cadence step stores: `WHOLE`, one longer on a long step, in exact arithmetic. -/
theorem Clock.cadence_period {k : Clock} (h : k.scaled.toNat ≤ 2239998) :
    (k.cadence Config.block).period.toNat = k.scaled.toNat / 64 + (if k.isLong Config.block then 1 else 0) := by
  have hwhole := (Clock.views_of_inRange h).1
  change (k.nextPeriod Config.block).toNat = _
  rw [Clock.nextPeriod]
  split
  · rw [BitVec.toNat_add, hwhole, BitVec.toNat_ofNat]
    omega
  · rw [hwhole, add_zero]

/-- Step 5 of TICK leaves the fraction accumulator. -/
theorem State.acquisitionTick_fracAcc {c : Params} {s t : State} (h : s.acquisitionTick c = .ok t) :
    t.clock.fracAcc = s.clock.fracAcc :=
  State.acquisitionTick_keeps (P := fun u => u.clock.fracAcc = s.clock.fracAcc)
    (fun _ _ hu => by rw [State.ssShift_clock]; exact hu)
    (fun _ _ hu => hu)
    (fun _ _ hd hu => by
      obtain ⟨-, rfl⟩ | ⟨-, -, hclock, -⟩ := State.disciplineCheck_cases hd
      · exact hu
      · rw [hclock]
        exact hu)
    (fun _ hu => by rw [State.persistCheck_clock]; exact hu) h rfl

/-- The clock after a TICK is one cadence step from the old accumulator and the `SCALED` that any adjust left. -/
theorem exec_tick_cadence {b : Bool} {s t : State} (h : exec (.tick b) s = .next t) :
    ∃ k : Clock, k.fracAcc = s.clock.fracAcc ∧ t.clock = k.cadence Config.block := by
  obtain ⟨mid, hmid, rfl⟩ := exec_tick_next_iff.mp h
  refine ⟨mid.clock, ?_, by rw [State.complete_clock, State.finishTick_clock]⟩
  rw [State.acquisitionTick_fracAcc hmid, State.takeSample_clock]

/-- Settles O49: one cadence step (`exec_tick_cadence`) chooses the period, and the invariant that the TICK keeps puts
`COMPARE` and the outputs beside it. -/
theorem tickChoosesTheNextPeriod : Obligations.TickChoosesTheNextPeriod := by
  intro b s t h ht
  obtain ⟨hlo, hhi, -, -, hcompare⟩ := (h.tick ht).clock
  obtain ⟨hperiodOut, hcompareOut⟩ := (h.tick ht).outputs
  obtain ⟨k, hacc, hclock⟩ := exec_tick_cadence ht
  have hscaled : t.clock.scaled = k.scaled := by rw [hclock, Clock.cadence_scaled]
  rw [hscaled] at hlo hhi
  have hperiod : t.clock.period.toNat = k.scaled.toNat / 64
      + (if t.clock.fracAcc.toNat < k.scaled.toNat % 64 then 1 else 0) := by
    rw [hclock, Clock.cadence_period hhi]
    simp only [Clock.isLong_iff hhi]
  rw [hscaled]
  refine ⟨by rw [hclock, Clock.cadence_fracAcc hhi, hacc], hperiod, ?_, hperiodOut, hcompareOut⟩
  have hpos : 0 < t.clock.period.toNat := by omega
  rw [hcompare]
  bv_omega

end Sys2Proof.Machine
end

/-! ### The window law (46_clock_discipline.md R256) -/

section
namespace Sys2Proof.Machine

theorem Clock.cadences_succ (n : Nat) (k : Clock) : k.cadences (n + 1) = (k.cadences n).cadence Config.block := by
  induction n generalizing k with
  | zero => rfl
  | succ n ih => exact ih (k.cadence Config.block)

/-- The accumulator as it would stand after `n` cadence steps if nothing were reduced modulo 64. -/
def Clock.phase (k : Clock) (n : Nat) : Nat := k.fracAcc.toNat + n * (k.scaled.toNat % 64)

theorem Clock.phase_succ (k : Clock) (n : Nat) : k.phase (n + 1) = k.phase n + k.scaled.toNat % 64 := by
  simp only [Clock.phase]
  ring

theorem Clock.phase_mono (k : Clock) : Monotone k.phase :=
  monotone_nat_of_le_succ fun n => by rw [k.phase_succ]; omega

theorem Clock.cadences_fracAcc {k : Clock} (ha : k.fracAcc.toNat < 64) (h : k.scaled.toNat ≤ 2239998) (n : Nat) :
    (k.cadences n).fracAcc.toNat = k.phase n % 64 := by
  induction n with
  | zero => simp [Clock.cadences, Clock.phase, Nat.mod_eq_of_lt ha]
  | succ n ih => rw [Clock.cadences_succ, Clock.cadence_fracAcc (by simpa using h), Clock.cadences_scaled, ih,
      Clock.phase_succ, Nat.mod_add_mod]

/-- The idea of the window law: a step is long exactly when the unreduced accumulator passes a multiple of 64. -/
theorem Clock.phase_succ_div {k : Clock} (ha : k.fracAcc.toNat < 64) (h : k.scaled.toNat ≤ 2239998) (n : Nat) :
    k.phase (n + 1) / 64 = k.phase n / 64 + (if (k.cadences n).isLong Config.block then 1 else 0) := by
  have hlong : (k.cadences n).isLong Config.block = true ↔ k.phase (n + 1) % 64 < k.scaled.toNat % 64 := by
    rw [Clock.isLong_iff (by simpa using h), ← Clock.cadences_succ, Clock.cadences_fracAcc ha h, Clock.cadences_scaled]
  have hsucc := k.phase_succ n
  split
  · next hl =>
    have hwrapped := hlong.mp hl
    omega
  · next hl =>
    have hstayed := mt hlong.mpr hl
    omega

/-- Long steps are counted by the multiples of 64 that the unreduced accumulator has passed. -/
theorem Clock.countP_isLong {k : Clock} (ha : k.fracAcc.toNat < 64) (h : k.scaled.toNat ≤ 2239998) (n : Nat) :
    (List.range n).countP (fun m => (k.cadences m).isLong Config.block) = k.phase n / 64 := by
  induction n with
  | zero => simp [Clock.phase, Nat.div_eq_of_lt ha]
  | succ n ih =>
    rw [List.range_succ, List.countP_append, ih, Clock.phase_succ_div ha h, List.countP_singleton]

/-- The periods of `n` steps: `WHOLE` each, and one more for each long step. -/
theorem Clock.sum_period {k : Clock} (h : k.scaled.toNat ≤ 2239998) (n : Nat) :
    ((List.range n).map fun m => (k.cadences (m + 1)).period.toNat).sum
      = n * (k.scaled.toNat / 64) + (List.range n).countP (fun m => (k.cadences m).isLong Config.block) := by
  induction n with
  | zero => simp
  | succ n ih =>
    have hperiod : (k.cadences (n + 1)).period.toNat
        = k.scaled.toNat / 64 + (if (k.cadences n).isLong Config.block then 1 else 0) := by
      rw [Clock.cadences_succ, Clock.cadence_period (by simpa using h), Clock.cadences_scaled]
    rw [List.range_succ, List.map_append, List.sum_append, ih, List.countP_append, List.countP_singleton,
      List.map_singleton, List.sum_singleton, hperiod]
    ring

/-- From one long step to a later one the unreduced accumulator passes two multiples of 64, so it takes the steps
between and one more to cover at least 65. -/
theorem Clock.spacing_of_isLong {k : Clock} (ha : k.fracAcc.toNat < 64) (h : k.scaled.toNat ≤ 2239998) {i j : Nat}
    (hij : i < j) (hi : (k.cadences i).isLong Config.block = true) (hj : (k.cadences j).isLong Config.block = true) :
    64 < (j - i + 1) * (k.scaled.toNat % 64) := by
  have hfirst := Clock.phase_succ_div ha h i
  have hlast := Clock.phase_succ_div ha h j
  rw [if_pos hi] at hfirst
  rw [if_pos hj] at hlast
  have hbetween : k.phase (i + 1) ≤ k.phase j := k.phase_mono hij
  have hcovered : k.phase (j + 1) = k.phase i + (j - i + 1) * (k.scaled.toNat % 64) := by
    obtain ⟨d, rfl⟩ := Nat.exists_eq_add_of_lt hij
    simp only [Clock.phase, show i + d + 1 - i = d + 1 by omega]
    ring
  omega

/-- Settles O50: in 64 steps the unreduced accumulator grows by `64 * FRAC`, so it passes `FRAC` multiples of 64. -/
theorem cadenceWindowLaw : Obligations.CadenceWindowLaw := by
  intro k ha _ h
  have hcount : (List.range 64).countP (fun n => (k.cadences n).isLong Config.block) = k.scaled.toNat % 64 := by
    rw [Clock.countP_isLong ha h, Clock.phase]
    omega
  refine ⟨hcount, ?sum, fun i j hij hi hj => ?spacing⟩
  case sum =>
    rw [Clock.sum_period h, hcount]
    exact Nat.div_add_mod _ _
  case spacing =>
    have hspacing := Clock.spacing_of_isLong ha h hij hi hj
    exact Nat.lt_succ_iff.mp (Nat.div_lt_of_lt_mul (by rwa [mul_comm]))

end Sys2Proof.Machine
end

/-! ### TICK completes (46_clock_discipline.md R258) -/

section
namespace Sys2Proof.Machine

/-- Every TICK that answers a next state drives `cmd_done` (49_tick_and_port.md R325). -/
theorem exec_tick_cmdDone {b : Bool} {s t : State} (h : exec (.tick b) s = .next t) : t.ports.cmdDone = true := by
  obtain ⟨mid, -, rfl⟩ := exec_tick_next_iff.mp h
  rw [State.complete_ports]

/-- Settles O55: `State.Inv.tick_completes`, whose argument is that `|ACC|` is at most 110 and `TSS` above 1000 when an
adjust is due. -/
theorem tickCompletes : Obligations.TickCompletes := by
  intro b s h
  obtain ⟨t, ht⟩ := h.tick_completes b
  exact ⟨t, ht, exec_tick_cmdDone ht⟩

end Sys2Proof.Machine
end

/-! ## Proofs of the family 47_time_of_day.md -/

/-! ### When a tick rolls over (47_time_of_day.md R280) -/

section
namespace Sys2Proof.Machine

/-- The second rolls over at its last tick. -/
theorem TimeOfDay.secondRolls_iff {t : TimeOfDay} : t.secondRolls = true ↔ t.ticks.toNat = 59 := by
  rw [TimeOfDay.secondRolls, beq_iff_eq]
  constructor <;> intro h <;> bv_omega

/-- Outside a leap minute, the minute rolls over at the last tick of its second 59. -/
theorem TimeOfDay.minuteRolls_iff {t : TimeOfDay} (hleap : t.isLeapMinute = false) :
    t.minuteRolls = true ↔ t.ticks.toNat = 59 ∧ t.seconds.toNat = 59 := by
  have hlast : (t.seconds + 1#8).toNat = 60 ↔ t.seconds.toNat = 59 := by constructor <;> intro h <;> bv_omega
  rw [TimeOfDay.minuteRolls, Bool.and_eq_true, TimeOfDay.secondRolls_iff, TimeOfDay.minuteLength, hleap, beq_iff_eq]
  exact and_congr_right fun _ => hlast

/-- The second rolls over at the ticks of the day that end one. -/
theorem TimeOfDay.Normal.secondRolls_eq {t : TimeOfDay} (h : t.Normal) :
    t.secondRolls = decide (t.tickOfDay % 60 = 59) := by
  obtain ⟨hticks, -⟩ := h
  rw [Bool.eq_iff_iff, TimeOfDay.secondRolls_iff, decide_eq_true_iff, TimeOfDay.tickOfDay]
  omega

/-- The minute rolls over at the ticks of the day that end one. -/
theorem TimeOfDay.Normal.minuteRolls_eq {t : TimeOfDay} (h : t.Normal) :
    t.minuteRolls = decide (t.tickOfDay % 3600 = 3599) := by
  obtain ⟨hticks, hseconds, -, -, -, -, -, hleap⟩ := h
  rw [Bool.eq_iff_iff, TimeOfDay.minuteRolls_iff hleap, decide_eq_true_iff, TimeOfDay.tickOfDay]
  omega

end Sys2Proof.Machine
end

/-! ### What a tick does to a normalised time of day (47_time_of_day.md R280, R281) -/

section
namespace Sys2Proof.Machine

/-- The minute that a rollover ends, back at its start, from which the minute carry runs (R280). -/
def TimeOfDay.minuteStart (t : TimeOfDay) : TimeOfDay :=
  { t with ticks := 0#8, seconds := 0#8, isLeapMinute := false }

@[simp] theorem TimeOfDay.minuteStart_minutes (t : TimeOfDay) : t.minuteStart.minutes = t.minutes := rfl

@[simp] theorem TimeOfDay.minuteStart_hours (t : TimeOfDay) : t.minuteStart.hours = t.hours := rfl

theorem TimeOfDay.advance_of_minuteRolls {t : TimeOfDay} (h : t.minuteRolls = true) :
    t.advance = t.minuteStart.minuteCarry := by
  rw [TimeOfDay.advance, if_pos h, TimeOfDay.minuteStart]

/-- A tick counts one tick of the day, modulo a day. -/
theorem TimeOfDay.Normal.advance_tickOfDay {t : TimeOfDay} (h : t.Normal) :
    t.advance.tickOfDay = (t.tickOfDay + 1) % 5184000 := by
  obtain ⟨hticks, hseconds, hminutes, hhours, -, -, -, hleap⟩ := h
  obtain ⟨hs, he⟩ | ⟨hs, hm, he⟩ | ⟨-, hm, -⟩ := t.advance_cases
  case inl =>
    have hne := mt TimeOfDay.secondRolls_iff.mpr (Bool.eq_false_iff.mp hs)
    have hsucc : (t.ticks + 1#8).toNat = t.ticks.toNat + 1 := by bv_omega
    simp only [he, TimeOfDay.tickOfDay, hsucc]
    omega
  case inr.inl =>
    have h59 := TimeOfDay.secondRolls_iff.mp hs
    have hne := mt (TimeOfDay.minuteRolls_iff hleap).mpr (Bool.eq_false_iff.mp hm)
    have hsucc : (t.seconds + 1#8).toNat = t.seconds.toNat + 1 := by bv_omega
    simp only [he, TimeOfDay.tickOfDay, hsucc, BitVec.toNat_ofNat]
    omega
  case inr.inr =>
    obtain ⟨h59, h59'⟩ := (TimeOfDay.minuteRolls_iff hleap).mp hm
    obtain ⟨hclock, -⟩ := TimeOfDay.minuteCarry_minuteOfDay (t := t.minuteStart) hminutes hhours
    have hstart : t.minuteStart.minuteCarry.ticks = 0#8 ∧ t.minuteStart.minuteCarry.seconds = 0#8 := by
      rw [TimeOfDay.minuteCarry_eq]
      exact ⟨rfl, rfl⟩
    rw [TimeOfDay.advance_of_minuteRolls hm]
    simp only [TimeOfDay.tickOfDay, hclock, hstart, TimeOfDay.minuteStart_minutes, TimeOfDay.minuteStart_hours,
      BitVec.toNat_ofNat]
    omega

/-- Before the last tick of the day a tick keeps the date. -/
theorem TimeOfDay.advance_within_day {t : TimeOfDay} (hleap : t.isLeapMinute = false)
    (h : t.tickOfDay + 1 < 5184000) :
    t.advance.day = t.day ∧ t.advance.year = t.year ∧ t.advance.isLeapYear = t.isLeapYear := by
  obtain ⟨-, he⟩ | ⟨-, -, he⟩ | ⟨-, hm, -⟩ := t.advance_cases
  case inl | inr.inl =>
    rw [he]
    exact ⟨rfl, rfl, rfl⟩
  case inr.inr =>
    obtain ⟨h59, h59'⟩ := (TimeOfDay.minuteRolls_iff hleap).mp hm
    rw [TimeOfDay.tickOfDay] at h
    have hminute : t.hours.toNat * 60 + t.minutes.toNat + 1 < 1440 := by omega
    rw [TimeOfDay.advance_of_minuteRolls hm]
    exact TimeOfDay.minuteCarry_within_day (t := t.minuteStart) hminute

/-- The last tick of the day stands in its last minute, and is that minute's last. -/
theorem TimeOfDay.Normal.last_tick {t : TimeOfDay} (h : t.Normal) (hend : t.tickOfDay + 1 = 5184000) :
    t.hours.toNat * 60 + t.minutes.toNat + 1 = 1440
      ∧ t.advance = t.minuteStart.minuteCarry := by
  have hrolls : t.minuteRolls = true := by
    rw [h.minuteRolls_eq, decide_eq_true_iff]
    omega
  obtain ⟨hticks, hseconds, -⟩ := h
  refine ⟨?_, TimeOfDay.advance_of_minuteRolls hrolls⟩
  rw [TimeOfDay.tickOfDay] at hend
  omega

/-- A year has at most 366 days, so the day after one fits its register. -/
theorem TimeOfDay.lastDay_le (t : TimeOfDay) : t.lastDay ≤ 366 := by
  unfold TimeOfDay.lastDay
  split <;> omega

/-- At midnight the day carries. -/
theorem TimeOfDay.Normal.advance_into_day {t : TimeOfDay} (h : t.Normal) (hend : t.tickOfDay + 1 = 5184000)
    (hd : t.day.toNat < t.lastDay) :
    t.advance.day = t.day + 1#16 ∧ t.advance.year = t.year ∧ t.advance.isLeapYear = t.isLeapYear := by
  obtain ⟨hminute, he⟩ := h.last_tick hend
  obtain ⟨-, -, hminutes, -⟩ := h
  rw [he, TimeOfDay.minuteCarry_into_day (t := t.minuteStart) hminutes hminute hd]
  exact ⟨rfl, rfl, rfl⟩

/-- At the midnight after the year's last day the year carries. -/
theorem TimeOfDay.Normal.advance_into_year {t : TimeOfDay} (h : t.Normal) (hend : t.tickOfDay + 1 = 5184000)
    (hd : t.day.toNat = t.lastDay) :
    t.advance.day = 1#16 ∧ t.advance.year = t.year + 1#16
      ∧ t.advance.isLeapYear = gregorianLeap (t.year + 1#16).toNat := by
  obtain ⟨hminute, he⟩ := h.last_tick hend
  obtain ⟨-, -, hminutes, -⟩ := h
  rw [he, TimeOfDay.minuteCarry_into_year (t := t.minuteStart) hminutes hminute hd]
  exact ⟨rfl, rfl, rfl⟩

end Sys2Proof.Machine
end

/-! ### The TICK of no accepted frame (47_time_of_day.md R280) -/

section
namespace Sys2Proof.Machine

/-- A TICK that accepts no frame raises the time flags by the rollovers of the time of day it starts from. -/
theorem exec_tick_timeFlag_of_no_frame {b : Bool} {s t : State} (h : exec (.tick b) s = .next t)
    (hno : s.acceptsFrame b = false) :
    t.flag .secondChanged = (s.flag .secondChanged || s.tod.secondRolls)
      ∧ t.flag .minuteChanged = (s.flag .minuteChanged || s.tod.minuteRolls) := by
  obtain ⟨mid, hmid, rfl⟩ := exec_tick_next_iff.mp h
  obtain ⟨htod, -⟩ := State.acquisitionTick_tod_decRej hmid
  have hkept : mid.tod = s.tod := by simpa [hno] using htod
  have hsecond := State.acquisitionTick_flag (g := .secondChanged) (by decide) (by decide) (by decide) hmid
  have hminute := State.acquisitionTick_flag (g := .minuteChanged) (by decide) (by decide) (by decide) hmid
  have hsample := State.flag_congr (State.takeSample_flags Config.block b s)
  simp only [State.flag_congr (State.complete_flags _), State.flag_finishTick, hsecond, hminute, hsample, hkept]
  simp

/-- Settles O51: the TICK is one `TimeOfDay.advance` of a time of day that no frame replaces, so the laws of `advance`
give the time, the date and the invariant, and its rollovers the flags. -/
theorem tickAdvancesTheTimeOfDay : Obligations.TickAdvancesTheTimeOfDay := by
  intro b s t hn h hno
  obtain ⟨-, htod⟩ := rejectedFrameLoadsNothing b s t h hno
  obtain ⟨hsecond, hminute⟩ := exec_tick_timeFlag_of_no_frame h hno
  rw [hn.secondRolls_eq] at hsecond
  rw [hn.minuteRolls_eq] at hminute
  rw [htod]
  refine ⟨TimeOfDay.advance_normal hn, s.tod.advance_hasFix, hn.advance_tickOfDay, ?within, ?day, ?year,
    hsecond, hminute⟩
  case within =>
    obtain ⟨-, -, -, -, -, -, -, hleap⟩ := hn
    exact TimeOfDay.advance_within_day hleap
  case day =>
    intro hend hd
    obtain ⟨hday, hrest⟩ := hn.advance_into_day hend hd
    have hle := s.tod.lastDay_le
    exact ⟨by rw [hday]; bv_omega, hrest⟩
  case year =>
    intro hend hd
    obtain ⟨hday, hyear, hleap⟩ := hn.advance_into_year hend hd
    exact ⟨by rw [hday]; rfl, hyear, by rw [hleap, hyear]⟩

end Sys2Proof.Machine
end

/-! ### The leap rule (47_time_of_day.md R282) -/

section
namespace Sys2Proof.Machine

theorem gregorianLeap_iff (y : Nat) : gregorianLeap y = true ↔ (y % 4 = 0 ∧ y % 100 ≠ 0) ∨ y % 400 = 0 := by
  simp [gregorianLeap]

/-- Settles O52: 2000 is the only century from 2000 to 2099, and 400 divides it. -/
theorem gregorianLeapYears : Obligations.GregorianLeapYears := by
  refine ⟨gregorianLeap_iff, fun y hfirst hlast => ?_, by decide⟩
  rw [gregorianLeap_iff]
  omega

end Sys2Proof.Machine
end

/-! ## Proofs of the family 48_calibration.md -/

/-! ### What RESET loads (48_calibration.md R301) -/

section
namespace Sys2Proof.Machine

/-- The calibration load of the specified hardware, on the record as a number whose low byte is the version
(48_calibration.md R301). -/
theorem calLoad_block (p : Bool) (r : CalRecord) :
    calLoad Config.block p r =
      if p = true ∧ r.toNat % 256 = 1 ∧ 2026666 ≤ r.toNat / 256 * 4 ∧ r.toNat / 256 * 4 ≤ 2239998 then
        (r.toNat / 256 * 4, 1)
      else if p = true ∧ r.toNat % 256 = 2 ∧ 2026666 ≤ r.toNat / 256 ∧ r.toNat / 256 ≤ 2239998 then
        (r.toNat / 256, 2)
      else (2133332, 0) := by
  obtain ⟨hversion, hscaled⟩ := record_fields r
  have hmin : Config.block.scaledMin = 2026666 := rfl
  have hmax : Config.block.scaledMax = 2239998 := rfl
  have hnominal : Config.block.nominalScaled = 2133332 := rfl
  simp only [calLoad, recordCandidate, hversion, hscaled, hmin, hmax, hnominal]
  cases p with
  | false => simp
  | true =>
    by_cases h1 : r.toNat % 256 = 1
    · simp [h1]
    · by_cases h2 : r.toNat % 256 = 2
      · simp [h2]
      · simp [h1, h2]

/-- RESET stores the loaded `SCALED` and `CAL_STATUS`; the `SCALED` fits its register. -/
theorem State.resetBlock_calibration (p : Bool) (s : State) :
    (s.resetBlock Config.block p).clock.scaled.toNat = (calLoad Config.block p s.ports.calIn).1
      ∧ (s.resetBlock Config.block p).calStatus = trunc8 (calLoad Config.block p s.ports.calIn).2 := by
  obtain ⟨-, hhi, -⟩ := calLoad_range p s.ports.calIn
  have hlt : (calLoad Config.block p s.ports.calIn).1 < 2 ^ 32 := by omega
  exact ⟨(BitVec.toNat_ofNat _ _).trans (Nat.mod_eq_of_lt hlt), rfl⟩

/-- Settles O21: RESET stores what the load answers (`State.resetBlock_calibration`), and the cases of the statement are
the branches of `calLoad_block`. -/
theorem calibrationLoad : Obligations.CalibrationLoad := by
  intro p s
  obtain ⟨hscaled, hstatus⟩ := s.resetBlock_calibration p
  rw [calLoad_block] at hscaled hstatus
  refine ⟨_, exec_reset p s, ?v1, ?v2, ?default⟩ <;>
    rw [State.complete_clock, State.complete_calStatus, hscaled, hstatus]
  case v1 =>
    intro hp hversion hlo hhi
    rw [if_pos ⟨hp, hversion, hlo, hhi⟩]
    exact ⟨rfl, rfl⟩
  case v2 =>
    intro hp hversion hlo hhi
    rw [if_neg (by omega), if_pos ⟨hp, hversion, hlo, hhi⟩]
    exact ⟨rfl, rfl⟩
  case default =>
    intro hv1 hv2
    rw [if_neg hv1, if_neg hv2]
    exact ⟨rfl, rfl⟩

end Sys2Proof.Machine
end

/-! ### The round trip of the record (48_calibration.md R303, R304) -/

section
namespace Sys2Proof.Machine

theorem regMap_calOut_readIn (s : State) : (RegRow.field 0x80 5 (s.clock.calOut Config.block)).ReadIn s :=
  regMap_readIn s _ (by simp [regMap])

/-- The five CAL_OUT bytes assemble to the version 2 with `SCALED` above it (48_calibration.md R303). -/
theorem readField_calOut (s : State) : readField s 0x80#8 5 = s.clock.scaled.toNat * 256 + 2 :=
  (RegRow.ReadIn.field_whole (regMap_calOut_readIn s)).trans s.clock.toNat_calOut

/-- CAL_OUT shows `SCALED` alone: clocks with the same one read the same five bytes. -/
theorem readReg_calOut_congr {s t : State} (h : t.clock.scaled = s.clock.scaled) {j : Nat} (hj : j < 5) :
    readReg t (BitVec.ofNat 8 (0x80 + j)) = readReg s (BitVec.ofNat 8 (0x80 + j)) := by
  have hout : t.clock.calOut Config.block = s.clock.calOut Config.block := by rw [Clock.calOut, h, Clock.calOut]
  rw [(regMap_calOut_readIn t).field_byte hj, (regMap_calOut_readIn s).field_byte hj, hout]

/-- Settles O22: the bytes are a v2 record (`readField_calOut`) whose `SCALED` the invariant keeps in range, so the load
takes it. -/
theorem calibrationRoundTrip : Obligations.CalibrationRoundTrip := by
  intro s r hs hr
  rw [readField_calOut] at hr
  obtain ⟨hlo, hhi, -⟩ := hs.clock
  have hdiv : r.ports.calIn.toNat / 256 = s.clock.scaled.toNat := by omega
  have hload : calLoad Config.block true r.ports.calIn = (s.clock.scaled.toNat, 2) := by
    rw [calLoad_block, if_neg (by omega), if_pos ⟨rfl, by omega, by omega, by omega⟩, hdiv]
  obtain ⟨hscaled, hstatus⟩ := r.resetBlock_calibration true
  rw [hload] at hscaled hstatus
  have heq : (r.resetBlock Config.block true).complete.clock.scaled = s.clock.scaled := BitVec.eq_of_toNat_eq hscaled
  exact ⟨_, exec_reset true r, heq, hstatus, fun j => readReg_calOut_congr heq j.isLt⟩

end Sys2Proof.Machine
end

/-! ## Proofs of the family 49_tick_and_port.md -/

/-! ### The step and the port (49_tick_and_port.md R319) -/

section
namespace Sys2Proof.Machine

/-- Settles O4: the step executes the presented word, and the word's command is what it decodes to. -/
theorem stepRunsTheDecodedCommand : Obligations.StepRunsTheDecodedCommand := by
  intro s p rest i hs he hi
  exact (step_of_presented hs he).trans (execute_of_decode hi (s.accept p rest))

end Sys2Proof.Machine
end

/-! ### CLRF (49_tick_and_port.md R327) -/

section
namespace Sys2Proof.Machine

theorem RegRow.holds_iff {a : Nat} {r : RegRow} : r.holds a = true ↔ r.base ≤ a ∧ a < r.base + r.len := by
  simp [RegRow.holds]

/-- FLAGS shows at address 0x01 alone: every other register reads as it does under any other FLAGS. -/
theorem readReg_with_flags (s : State) (f : BitVec 6) {a : Byte} (ha : a ≠ 0x01#8) :
    readReg { s with flags := f } a = readReg s a := by
  obtain ⟨rest, hmap⟩ : ∃ rest, ∀ g : BitVec 6, regMap Config.block { s with flags := g } =
      .one 0x00 s.status :: .one 0x01 (g.setWidth 8) :: rest := ⟨(regMap Config.block s).drop 2, fun _ => rfl⟩
  have hmiss (v : Byte) : (RegRow.one 0x01 v).holds a.toNat = false := by
    have hne : a.toNat ≠ 1 := fun h => ha (BitVec.eq_of_toNat_eq h)
    refine Bool.eq_false_iff.mpr fun h => ?_
    obtain ⟨hlo, hhi⟩ : 1 ≤ a.toNat ∧ a.toNat < 2 := RegRow.holds_iff.mp h
    omega
  change readReg { s with flags := f } a = readReg { s with flags := s.flags } a
  simp only [readReg, readRegWith, hmap, List.find?_cons, hmiss]

/-- Settles O18: CLRF writes FLAGS and the strobes, FLAGS shows at one address (`readReg_with_flags`), and the reserved
bits of its words are `decode_of_clrf_opcode`. -/
theorem clearFlagsClearsWhatTheMaskSelects : Obligations.ClearFlagsClearsWhatTheMaskSelects := by
  refine ⟨fun m s => ?effect, fun w hop => ?words⟩
  case effect =>
    have hsame : State.SameBlock { s with flags := s.flags &&& ~~~m } (s.clearFlags m).complete :=
      ⟨rfl, rfl, rfl, rfl, rfl, rfl, rfl, rfl, rfl, rfl, rfl, rfl⟩
    refine ⟨_, exec_clrf m s, fun j => ?_, hsame, rfl, rfl, fun a ha => ?_⟩
    · rw [State.complete_flags, State.clearFlags_flags]
      simp
    · exact (readReg_congr hsame a).symm.trans (readReg_with_flags s _ ha)
  case words =>
    rw [decode_of_clrf_opcode hop]
    exact ⟨fun h => if_pos h, fun h => if_neg h⟩

end Sys2Proof.Machine
end

/-! ### The frame of TICK (49_tick_and_port.md R320, R323) -/

section
namespace Sys2Proof.Machine

/-- A tick keeps IS_DST. -/
theorem TimeOfDay.advance_isDst (t : TimeOfDay) : t.advance.isDst = t.isDst := by
  obtain ⟨-, h⟩ | ⟨-, -, h⟩ | ⟨-, -, h⟩ := t.advance_cases <;> rw [h]
  rw [TimeOfDay.minuteCarry_eq]

/-- A frame keeps IS_DST (10_state.md R33). -/
theorem FrameDigits.load_isDst (d : FrameDigits) (t : TimeOfDay) : (d.load Config.block t).isDst = t.isDst := by
  obtain ⟨-, -, hdst, -⟩ := d.minuteAfter_frame t
  rw [FrameDigits.load_block, hdst]

/-- TICK keeps IS_DST, whether or not it accepts a frame. -/
theorem exec_tick_isDst {b : Bool} {s t : State} (h : exec (.tick b) s = .next t) : t.tod.isDst = s.tod.isDst := by
  obtain ⟨htod, -⟩ := exec_tick_tod_decRej h
  rw [htod, TimeOfDay.advance_isDst]
  split
  · exact FrameDigits.load_isDst _ _
  · rfl

/-- TICK drives the period outputs from the clock and the strobes, and no other port. -/
theorem exec_tick_ports {b : Bool} {s t : State} (h : exec (.tick b) s = .next t) :
    t.ports =
      { s.ports with
        periodOut := t.clock.period, compareOut := t.clock.compare, cmdValid := false, cmdDone := true } := by
  obtain ⟨mid, hmid, rfl⟩ := exec_tick_next_iff.mp h
  obtain ⟨-, -, -, -, -, hports, -⟩ := State.acquisitionTick_frame hmid
  rw [State.complete_ports, State.finishTick_ports, State.complete_clock, State.finishTick_clock, hports,
    State.takeSample_ports]

/-- TICK sets `needs_ui_refresh` (49_tick_and_port.md R323). -/
theorem exec_tick_needsUiRefresh {b : Bool} {s t : State} (h : exec (.tick b) s = .next t) :
    t.flag .needsUiRefresh = true := by
  obtain ⟨mid, -, rfl⟩ := exec_tick_next_iff.mp h
  rw [State.flag_congr (State.complete_flags _), State.flag_finishTick, decide_eq_true rfl, Bool.or_true]

/-- Settles O54: the parts are `exec_tick_frame`, `exec_tick_isDst`, `exec_tick_ports` and, of the flags,
`exec_tick_needsUiRefresh` and `exec_tick_flagsKept`. -/
theorem tickFrame : Obligations.TickFrame := by
  intro b s t h
  obtain ⟨herror, hcal, hschedule⟩ := exec_tick_frame h
  have hports := exec_tick_ports h
  refine ⟨herror, hcal, exec_tick_isDst h, hschedule, ?_, exec_tick_needsUiRefresh h, exec_tick_flagsKept h⟩
  rw [hports]

end Sys2Proof.Machine
end

/-! ## Proofs of the family 60_exceptions.md -/

/-! ### The illegal word and the idle block (60_exceptions.md R350, R365) -/

section
namespace Sys2Proof.Machine

/-- Settles O5: the step takes the word and then `State.raiseIllegal`, which writes the error registers, by
`ErrorRecord.record`, and the strobes. -/
theorem illegalWordTakesTheException : Obligations.IllegalWordTakesTheException := by
  intro s p rest cause hs he hd
  have hstep : step s = .next ((s.accept p rest).raiseIllegal cause p.word) :=
    (step_of_presented hs he).trans (execute_of_illegal hd _)
  exact ⟨_, hstep, rfl, rfl, ⟨rfl, rfl, rfl, rfl, rfl, rfl, rfl, rfl, rfl, rfl, rfl, rfl⟩, rfl⟩

/-- With nothing presented the step is idle (60_exceptions.md R365). -/
theorem step_of_nothing_presented {s : State} (hs : s.schedule = []) : step s = .next s.idle := by
  simp [step, executeNext, executeNextBy, hs]

/-- Settles O7: an idle step is `State.idle`, which lowers the two strobes. -/
theorem idleWithoutACommand : Obligations.IdleWithoutACommand :=
  fun _ => step_of_nothing_presented

end Sys2Proof.Machine
end

/-! ## Proofs of the family 70_reset_and_hazards.md -/

/-! ### RESET (70_reset_and_hazards.md R380, R381) -/

section
namespace Sys2Proof.Machine

/-- The first period after RESET is short (10_state.md R31). -/
theorem State.resetBlock_period (c : Params) (p : Bool) (s : State) :
    (s.resetBlock c p).clock.period = (s.resetBlock c p).clock.whole c := rfl

/-- Settles O20: RESET writes the reset value of each field whatever the state, and the invariant it establishes puts
the loaded `SCALED` in range, where `WHOLE` is the exact quotient and `COMPARE` does not wrap. -/
theorem resetLeavesTheResetState : Obligations.ResetLeavesTheResetState := by
  intro p s
  have hclock : (s.resetBlock Config.block p).clock.InRange := (State.resetBlock_inv p s).clock
  obtain ⟨hlo, hhi, -, -, hcompare⟩ := hclock
  obtain ⟨hwhole, -⟩ := Clock.views_of_inRange hhi
  have hperiod : (s.resetBlock Config.block p).clock.period.toNat
      = (s.resetBlock Config.block p).clock.scaled.toNat / 64 := by
    rw [State.resetBlock_period, hwhole]
  have hcompare' : (s.resetBlock Config.block p).clock.compare.toNat
      = (s.resetBlock Config.block p).clock.scaled.toNat / 64 - 1 := by
    have hpos : 0 < (s.resetBlock Config.block p).clock.period.toNat := by omega
    rw [hcompare, ← hperiod]
    bv_omega
  refine ⟨_, exec_reset p s, rfl, rfl, fun k => ?boards, fun i => ?stream, rfl, rfl, rfl, rfl, rfl, rfl, rfl, hperiod,
    hcompare', rfl, rfl⟩
  case boards =>
    have hboard : (s.resetBlock Config.block p).complete.board.get k = Scoreboard.reset := by cases k <;> rfl
    rw [hboard]
    exact ⟨rfl, rfl, fun i => Vector.getElem_replicate i.isLt⟩
  case stream => exact Vector.getElem_replicate i.isLt

/-- Of what was before, RESET reads the record alone (70_reset_and_hazards.md R381). -/
theorem State.resetBlock_sameBlock (c : Params) (p : Bool) {s s' : State} (h : s.ports.calIn = s'.ports.calIn) :
    (s.resetBlock c p).SameBlock (s'.resetBlock c p) := by
  have hclock : (s.resetBlock c p).clock = (s'.resetBlock c p).clock :=
    congrArg (fun r => resetClock c (calLoad c p r).1) h
  have hcal : (s.resetBlock c p).calStatus = (s'.resetBlock c p).calStatus :=
    congrArg (fun r => trunc8 (calLoad c p r).2) h
  exact ⟨rfl, rfl, rfl, rfl, rfl, rfl, hclock, rfl, rfl, rfl, rfl, hcal⟩

/-- Settles O23: the two blocks are the same (`State.resetBlock_sameBlock`), and registers are read from the block
alone. -/
theorem resetForgetsThePast : Obligations.ResetForgetsThePast := by
  intro p s s' t t' hcal ht ht'
  rw [exec_reset] at ht ht'
  cases ht
  cases ht'
  have hsame : State.SameBlock (s.resetBlock Config.block p).complete (s'.resetBlock Config.block p).complete :=
    State.resetBlock_sameBlock Config.block p hcal
  exact ⟨hsame, readReg_congr hsame⟩

/-- Settles O57: `State.reset_inv`. -/
theorem resetMeetsTheInvariant : Obligations.ResetMeetsTheInvariant := State.reset_inv

end Sys2Proof.Machine
end

/-! ### The handshake (70_reset_and_hazards.md R385) -/

section
namespace Sys2Proof.Machine

/-- Settles O8: `step_of_early`. -/
theorem earlyCommandStops : Obligations.EarlyCommandStops :=
  fun _ _ _ => step_of_early

/-- A legal command completes from every state that meets the invariant. -/
theorem State.Inv.exec_completes {s : State} (h : s.Inv) (i : Instr) : ∃ t, Machine.exec i s = .next t := by
  cases i with
  | tick b => exact h.tick_completes b
  | rd a => exact ⟨_, exec_rd a s⟩
  | clrf m => exact ⟨_, exec_clrf m s⟩
  | reset p => exact ⟨_, exec_reset p s⟩

/-- A word completes, legal or not, from every state that meets the invariant. -/
theorem State.Inv.execute_completes {s : State} (h : s.Inv) (w : CommandWord) : ∃ t, execute w s = .next t := by
  cases hd : decode w with
  | ok i =>
    rw [execute_of_decode hd]
    exact h.exec_completes i
  | error k => exact ⟨_, execute_of_illegal hd s⟩

/-- While the handshake is kept, a step from a state that meets the invariant completes. -/
theorem State.Inv.step_completes {s : State} (h : s.Inv) (hk : s.HandshakeKept) : ∃ t, step s = .next t := by
  cases hs : s.schedule with
  | nil => exact ⟨_, step_of_nothing_presented hs⟩
  | cons p rest =>
    have he : p.early = false := hk p (by simp [hs])
    rw [step_of_presented hs he]
    exact (h.accept p rest).execute_completes p.word

/-- A step leaves a schedule that keeps the handshake: it takes commands from it and adds none. -/
theorem State.HandshakeKept.step {s t : State} (hk : s.HandshakeKept) (ht : Machine.step s = .next t) :
    t.HandshakeKept := by
  intro p hp
  rw [commandsRunInTheirTotalOrder s t ht] at hp
  exact hk p (List.mem_of_mem_tail hp)

/-- A run goes on from the state that its first step answers. -/
theorem run_succ_of_step {M : Host.Core} {s t : M.State} (h : M.step s = .next t) (n : Nat) :
    M.run (n + 1) s = M.run n t := by
  rw [Host.Core.run, h]

/-- Settles O59, by induction on the number of steps: the first completes (`State.Inv.step_completes`) and keeps both
the invariant and the handshake, from which the rest run. -/
theorem runsNeverStop : Obligations.RunsNeverStop := by
  intro n
  induction n with
  | zero => exact fun s h hk => ⟨s, rfl, h, hk⟩
  | succ n ih =>
    intro s h hk
    obtain ⟨t, ht⟩ := h.step_completes hk
    have hrun : Sys2Proof.core.run (n + 1) s = Sys2Proof.core.run n t := run_succ_of_step ht n
    rw [hrun]
    exact ih t (everyStepKeepsTheInvariant s t h ht) (hk.step ht)

end Sys2Proof.Machine
end

/-! ## Proofs of the remaining statements -/

/-! ### Configurations (00_scope.md R7, 48_calibration.md R302) -/

section
namespace Sys2Proof.Machine

/-- At the value column every command is that of the specified hardware. -/
theorem execWith_block : execWith Config.block = exec := by
  funext i s
  cases i <;> rfl

/-- Which configurations are not refused (48_calibration.md R302). -/
theorem configuration_wellFormed_iff (c : Params) :
    c.wellFormed = true ↔ c.denom = 64 ∧ c.templateBits ≤ 80 ∧ c.scoreboardLen ≤ 11 ∧ c.streamLen ≤ 60 := by
  simp [Params.wellFormed, Params.codecDefined, Params.sizesFit, and_assoc]

/-- Settles O60: the configured step runs `execWith`, which is `exec` at the value column (`execWith_block`), and
`configure` refuses exactly what `configuration_wellFormed_iff` excludes. -/
theorem configuredMachine : Obligations.ConfiguredMachine := by
  refine ⟨fun s => ?step, ?reset, fun c p r hdenom hbits hboard hstream => ?accepted, fun c p r hout => ?refused⟩
  case step => rw [stepWith, execWith_block, step, executeNext]
  case reset => rfl
  case accepted =>
    rw [configure, if_pos ((configuration_wellFormed_iff c).mpr ⟨hdenom, hbits, hboard, hstream⟩)]
    rfl
  case refused =>
    have hbad : ¬c.wellFormed = true := by
      rw [configuration_wellFormed_iff]
      omega
    rw [configure, if_neg hbad]

end Sys2Proof.Machine
end
